-- ==== Sys2Proof/Word.lean ====
section
/-! DEFINITION. The byte, the one word type of the block (spec/00_scope.md R10: a byte is an 8-bit unsigned value; R11:
every integer of the block is unsigned). -/

namespace Sys2Proof

/-- A byte (R10). Its bits are numbered 7 (most significant) down to 0 (R9). -/
abbrev Byte := BitVec 8

end Sys2Proof
end

