-- ==== Sys2Proof/Config.lean ====
section
/-! DEFINITION. The parameters of spec/00_scope.md R8: the fixed literals, and the three the spec leaves open
(`OPCODE_RECORD_POLICY`, `ACC_CAP`, `E`). -/

namespace Sys2Proof

/-- `OPCODE_RECORD_POLICY` (R8, R100): OPEN in the spec (92 D9, 90 C3). -/
inductive RecordPolicy where
  /-- every TEXT or BINARY fragment records its opcode -/
  | overwrite
  /-- only a record of 0 is replaced -/
  | keepFirst
  deriving DecidableEq, Repr, Inhabited

/-- The parameters an instance is built with. They are no registers (10_state.md R29): no step writes them. They stand in
State because `step` takes a State alone, so that a claim about every state holds under every value of them. -/
structure Params where
  /-- `OPCODE_RECORD_POLICY` -/
  recordPolicy : RecordPolicy
  /-- `ACC_CAP` in bytes; `none` is the spec's default, unbounded -/
  accCap : Option Nat
  deriving DecidableEq, Repr

/-- A transport-error value, of the spec's opaque type `E` (R8, 92 D35). DESIGN CHOICE (log 4): its values are told apart
by a label, so that State is plain data; no operation of the model looks at the label. -/
structure TransportError where
  label : Nat
  deriving DecidableEq, Repr

namespace Config

/-- `KEY_BYTES` (R8). -/
def keyBytes : Nat := 4
/-- `LEN_DIRECT_MAX` (R8). -/
def lenDirectMax : Nat := 125
/-- `LEN16_ESC` (R8). -/
def len16Esc : Nat := 126
/-- `LEN64_ESC` (R8). -/
def len64Esc : Nat := 127
/-- `MAX_ACCEPTED_LEN` (R8): 2^63 − 1. -/
def maxAcceptedLen : Nat := 2 ^ 63 - 1
/-- `CONT_CAP` (R8). -/
def contCap : Nat := 100

/-- The policy the instance of `State.reset` is built with: OPEN (92 D9), so a constant without a body (log 3). -/
opaque recordPolicy : RecordPolicy

/-- `ACC_CAP`'s default of R8: unbounded. -/
def accCapDefault : Option Nat := none

/-- The parameters of the instance of `State.reset`. -/
def params : Params := { recordPolicy := recordPolicy, accCap := accCapDefault }

end Config

end Sys2Proof
end

