-- ==== Sys2Proof/Syntax.lean ====
section
/-! DEFINITION. The syntax: the instructions (the rows of spec/opcode_table.json), the host commands (R27, R68) and
whole wire frames in the notation of R68. -/

namespace Sys2Proof

/-- Four key bytes, `key[0..3]` (R22, R69): the register `KEY` and the operand of UNMASK. -/
structure MaskKey where
  k0 : Byte
  k1 : Byte
  k2 : Byte
  k3 : Byte
  deriving DecidableEq, Repr

/-- One constructor per row of spec/opcode_table.json. The first sixteen are frame headers with `RSV = 0`, by opcode
(R63), with the header word's operand fields `FIN`, `MASK` and `LEN7` (R58); the extended length, key and payload follow
the header in the stream and are fetched by FDEC. The next three are header bytes 0 with a reserved bit set (R65): they
are one byte long, and byte 1 is never read. The last three are the host commands (R68), which have no wire encoding. -/
inductive Instr where
  /-- opcode 0, a continuation frame (R104) -/
  | cont (fin masked : Bool) (len7 : BitVec 7)
  /-- opcode 1 (R105) -/
  | text (fin masked : Bool) (len7 : BitVec 7)
  /-- opcode 2 (R106) -/
  | binary (fin masked : Bool) (len7 : BitVec 7)
  /-- reserved opcode 3 (R110) -/
  | rsvd3 (fin masked : Bool) (len7 : BitVec 7)
  /-- reserved opcode 4 (R110) -/
  | rsvd4 (fin masked : Bool) (len7 : BitVec 7)
  /-- reserved opcode 5 (R110) -/
  | rsvd5 (fin masked : Bool) (len7 : BitVec 7)
  /-- reserved opcode 6 (R110) -/
  | rsvd6 (fin masked : Bool) (len7 : BitVec 7)
  /-- reserved opcode 7 (R110) -/
  | rsvd7 (fin masked : Bool) (len7 : BitVec 7)
  /-- opcode 8 (R109) -/
  | close (fin masked : Bool) (len7 : BitVec 7)
  /-- opcode 9 (R107) -/
  | ping (fin masked : Bool) (len7 : BitVec 7)
  /-- opcode 10 (R108) -/
  | pong (fin masked : Bool) (len7 : BitVec 7)
  /-- reserved opcode 11 (R110) -/
  | rsvdB (fin masked : Bool) (len7 : BitVec 7)
  /-- reserved opcode 12 (R110) -/
  | rsvdC (fin masked : Bool) (len7 : BitVec 7)
  /-- reserved opcode 13 (R110) -/
  | rsvdD (fin masked : Bool) (len7 : BitVec 7)
  /-- reserved opcode 14 (R110) -/
  | rsvdE (fin masked : Bool) (len7 : BitVec 7)
  /-- reserved opcode 15 (R110) -/
  | rsvdF (fin masked : Bool) (len7 : BitVec 7)
  /-- header byte 0 with RSV1 set, the other two reserved bits of any value (R83) -/
  | rsv1Set (fin rsv2 rsv3 : Bool) (opc : BitVec 4)
  /-- header byte 0 with RSV1 clear and RSV2 set (R83) -/
  | rsv2Set (fin rsv3 : Bool) (opc : BitVec 4)
  /-- header byte 0 with RSV1 and RSV2 clear and RSV3 set (R83) -/
  | rsv3Set (fin : Bool) (opc : BitVec 4)
  /-- the host command UNMASK (R78); the offset is 2 bits wide, so no other value exists (R73) -/
  | unmask (key : MaskKey) (ofs : BitVec 2) (data : List Byte)
  /-- the host command DECODE_FRAME (R81) -/
  | decodeFrame
  /-- the host command READ_MESSAGE (R95) -/
  | readMessage
  deriving DecidableEq, Repr

/-- The commands of the host port (R27), in the notation of R68. -/
inductive Command where
  | unmask (key : MaskKey) (ofs : BitVec 2) (data : List Byte)
  | decodeFrame
  | readMessage
  deriving DecidableEq, Repr

/-- How an instruction reaches the block: as header bytes of the stream, or as a command at the host port. -/
inductive Code where
  | wire (bytes : List Byte)
  | port (command : Command)
  deriving DecidableEq, Repr

/-- The length form of a frame, `len=(7|16|64)` in R68. -/
inductive LenForm where
  | len7
  | len16
  | len64
  deriving DecidableEq, Repr

/-- A whole frame in the notation of R68; `payload` is always the unmasked payload. -/
structure WireFrame where
  fin : Bool
  rsv : BitVec 3
  opc : BitVec 4
  key : Option MaskKey
  form : LenForm
  payload : List Byte
  deriving DecidableEq, Repr

/-- The six header formats of R59. -/
inductive Format where
  | s
  | sm
  | e16
  | e16m
  | e64
  | e64m
  deriving DecidableEq, Repr

end Sys2Proof
end

