-- ==== Sys2Proof/WellFormed.lean ====
section
/-! DEFINITION. Which terms of the syntax stand for something on the wire or at the host port. -/

namespace Sys2Proof

/-- Every instruction is well formed: each field has exactly the width the spec gives it (R57, R73), and UNMASK's data is
a byte sequence of any length (R78). -/
def Instr.wf : Instr → Bool
  | .cont _ _ _ => true
  | .text _ _ _ => true
  | .binary _ _ _ => true
  | .rsvd3 _ _ _ => true
  | .rsvd4 _ _ _ => true
  | .rsvd5 _ _ _ => true
  | .rsvd6 _ _ _ => true
  | .rsvd7 _ _ _ => true
  | .close _ _ _ => true
  | .ping _ _ _ => true
  | .pong _ _ _ => true
  | .rsvdB _ _ _ => true
  | .rsvdC _ _ _ => true
  | .rsvdD _ _ _ => true
  | .rsvdE _ _ _ => true
  | .rsvdF _ _ _ => true
  | .rsv1Set _ _ _ _ => true
  | .rsv2Set _ _ _ => true
  | .rsv3Set _ _ => true
  | .unmask _ _ _ => true
  | .decodeFrame => true
  | .readMessage => true

/-- The payload fits the length form (R61); in the 64-bit form only the lengths the design accepts (R86). -/
def WireFrame.lengthFits (f : WireFrame) : Bool :=
  match f.form with
  | .len7 => decide (f.payload.length ≤ Config.lenDirectMax)
  | .len16 => decide (f.payload.length < 2 ^ 16)
  | .len64 => decide (f.payload.length ≤ Config.maxAcceptedLen)

/-- The reserved bits are zero (R65: any other header byte 0 is illegal). -/
def WireFrame.rsvClear (f : WireFrame) : Bool := decide (f.rsv = 0)

/-- A frame that FDEC reads in full: reserved bits zero and the length within its form. -/
def WireFrame.wf (f : WireFrame) : Bool := f.rsvClear && f.lengthFits

end Sys2Proof
end

