-- ==== Sys2Proof/Decode.lean ====
section
/-! DEFINITION. The header bit extractor (R79, R80), the decoder, total on any bytes, the encoder written from the same
tables (R57, R58, R63), and the rows of spec/opcode_table.json as data. -/

namespace Sys2Proof

/-! ### The header bit extractor -/

/-- The fields of header byte 0 (R57). -/
structure Hdr0 where
  fin : Bool
  rsv : BitVec 3
  opc : BitVec 4
  deriving DecidableEq, Repr

/-- The fields of header byte 1 (R57). -/
structure Hdr1 where
  mask : Bool
  len7 : BitVec 7
  deriving DecidableEq, Repr

/-- HX0 (R79): `fin = b[7]`, `rsv = b[6:4]`, `opc = b[3:0]`. -/
def hx0 (b : Byte) : Hdr0 :=
  { fin := b.getLsbD 7, rsv := b.extractLsb' 4 3, opc := b.extractLsb' 0 4 }

/-- HX1 (R80): `mask = b[7]`, `len7 = b[6:0]`. -/
def hx1 (b : Byte) : Hdr1 :=
  { mask := b.getLsbD 7, len7 := b.extractLsb' 0 7 }

/-! ### The decoder -/

/-- Why bytes hold no instruction yet. -/
inductive DecodeError where
  /-- there is no header byte 0 -/
  | noByte0
  /-- header byte 0 has its reserved bits clear, and there is no header byte 1 -/
  | noByte1
  deriving DecidableEq, Repr

/-- The opcode map of R63: all sixteen values of the 4-bit field. -/
def instrOfOpcode (opc : BitVec 4) (fin masked : Bool) (len7 : BitVec 7) : Instr :=
  match opc.toNat with
  | 0 => .cont fin masked len7
  | 1 => .text fin masked len7
  | 2 => .binary fin masked len7
  | 3 => .rsvd3 fin masked len7
  | 4 => .rsvd4 fin masked len7
  | 5 => .rsvd5 fin masked len7
  | 6 => .rsvd6 fin masked len7
  | 7 => .rsvd7 fin masked len7
  | 8 => .close fin masked len7
  | 9 => .ping fin masked len7
  | 10 => .pong fin masked len7
  | 11 => .rsvdB fin masked len7
  | 12 => .rsvdC fin masked len7
  | 13 => .rsvdD fin masked len7
  | 14 => .rsvdE fin masked len7
  | _ => .rsvdF fin masked len7

/-- The three reserved-bit rows of the table, for a header byte 0 with some reserved bit set (R65): RSV1 = `rsv[2]`,
RSV2 = `rsv[1]`, RSV3 = `rsv[0]` (R19). -/
def instrOfRsv (x : Hdr0) : Instr :=
  if x.rsv.getLsbD 2 then .rsv1Set x.fin (x.rsv.getLsbD 1) (x.rsv.getLsbD 0) x.opc
  else if x.rsv.getLsbD 1 then .rsv2Set x.fin (x.rsv.getLsbD 0) x.opc
  else .rsv3Set x.fin x.opc

/-- The decoder on stream bytes, in the order of R64: the reserved bits of byte 0 first, whatever the opcode, and only
then byte 1 and the opcode. It answers the instruction and the bytes after its header. -/
def decode : List Byte → Except DecodeError (Instr × List Byte)
  | [] => .error .noByte0
  | b0 :: rest =>
    if (hx0 b0).rsv = 0 then
      match rest with
      | [] => .error .noByte1
      | b1 :: rest' => .ok (instrOfOpcode (hx0 b0).opc (hx0 b0).fin (hx1 b1).mask (hx1 b1).len7, rest')
    else .ok (instrOfRsv (hx0 b0), rest)

/-- The instruction a host command is (R68). -/
def Command.toInstr : Command → Instr
  | .unmask key ofs data => .unmask key ofs data
  | .decodeFrame => .decodeFrame
  | .readMessage => .readMessage

/-- The decoder on either port. -/
def decodeCode : Code → Except DecodeError (Instr × List Byte)
  | .wire bytes => decode bytes
  | .port c => .ok (c.toInstr, [])

/-! ### The encoder -/

/-- Header byte 0 from its fields (R57). -/
def byte0 (fin : Bool) (rsv : BitVec 3) (opc : BitVec 4) : Byte := BitVec.ofBool fin ++ rsv ++ opc

/-- Header byte 1 from its fields (R57). -/
def byte1 (masked : Bool) (len7 : BitVec 7) : Byte := BitVec.ofBool masked ++ len7

/-- The three reserved bits, RSV1 first (R57). -/
def rsvBits (rsv1 rsv2 rsv3 : Bool) : BitVec 3 := BitVec.ofBool rsv1 ++ BitVec.ofBool rsv2 ++ BitVec.ofBool rsv3

/-- A two-byte header with the reserved bits clear. -/
def header (opc : BitVec 4) (fin masked : Bool) (len7 : BitVec 7) : Code :=
  .wire [byte0 fin 0 opc, byte1 masked len7]

/-- The encoder: the header bytes of a frame instruction, the one byte of a reserved-bit row, the command of a host
command. -/
def encode : Instr → Code
  | .cont fin masked len7 => header 0 fin masked len7
  | .text fin masked len7 => header 1 fin masked len7
  | .binary fin masked len7 => header 2 fin masked len7
  | .rsvd3 fin masked len7 => header 3 fin masked len7
  | .rsvd4 fin masked len7 => header 4 fin masked len7
  | .rsvd5 fin masked len7 => header 5 fin masked len7
  | .rsvd6 fin masked len7 => header 6 fin masked len7
  | .rsvd7 fin masked len7 => header 7 fin masked len7
  | .close fin masked len7 => header 8 fin masked len7
  | .ping fin masked len7 => header 9 fin masked len7
  | .pong fin masked len7 => header 10 fin masked len7
  | .rsvdB fin masked len7 => header 11 fin masked len7
  | .rsvdC fin masked len7 => header 12 fin masked len7
  | .rsvdD fin masked len7 => header 13 fin masked len7
  | .rsvdE fin masked len7 => header 14 fin masked len7
  | .rsvdF fin masked len7 => header 15 fin masked len7
  | .rsv1Set fin rsv2 rsv3 opc => .wire [byte0 fin (rsvBits true rsv2 rsv3) opc]
  | .rsv2Set fin rsv3 opc => .wire [byte0 fin (rsvBits false true rsv3) opc]
  | .rsv3Set fin opc => .wire [byte0 fin (rsvBits false false true) opc]
  | .unmask key ofs data => .port (.unmask key ofs data)
  | .decodeFrame => .port .decodeFrame
  | .readMessage => .port .readMessage

/-! ### The table -/

/-- The mnemonic of an instruction's row in spec/opcode_table.json. -/
def Instr.mnemonic : Instr → String
  | .cont _ _ _ => "CONT"
  | .text _ _ _ => "TEXT"
  | .binary _ _ _ => "BINARY"
  | .rsvd3 _ _ _ => "RSVD3"
  | .rsvd4 _ _ _ => "RSVD4"
  | .rsvd5 _ _ _ => "RSVD5"
  | .rsvd6 _ _ _ => "RSVD6"
  | .rsvd7 _ _ _ => "RSVD7"
  | .close _ _ _ => "CLOSE"
  | .ping _ _ _ => "PING"
  | .pong _ _ _ => "PONG"
  | .rsvdB _ _ _ => "RSVDB"
  | .rsvdC _ _ _ => "RSVDC"
  | .rsvdD _ _ _ => "RSVDD"
  | .rsvdE _ _ _ => "RSVDE"
  | .rsvdF _ _ _ => "RSVDF"
  | .rsv1Set _ _ _ _ => "RSV1_SET"
  | .rsv2Set _ _ _ => "RSV2_SET"
  | .rsv3Set _ _ => "RSV3_SET"
  | .unmask _ _ _ => "UNMASK"
  | .decodeFrame => "DECODE_FRAME"
  | .readMessage => "READ_MESSAGE"

/-- A wire row of spec/opcode_table.json: the header words `hw` with `hw &&& mask = value`. -/
structure Row where
  mnemonic : String
  value : BitVec 16
  mask : BitVec 16
  deriving DecidableEq, Repr

/-- Whether a row of the table covers a header word. -/
def Row.covers (r : Row) (hw : BitVec 16) : Bool := decide (hw &&& r.mask = r.value)

/-- The nineteen wire rows, with the table's own match and mask. -/
def opcodeRows : List Row :=
  [⟨"CONT", 0x0000, 0x7F00⟩, ⟨"TEXT", 0x0100, 0x7F00⟩, ⟨"BINARY", 0x0200, 0x7F00⟩, ⟨"RSVD3", 0x0300, 0x7F00⟩,
   ⟨"RSVD4", 0x0400, 0x7F00⟩, ⟨"RSVD5", 0x0500, 0x7F00⟩, ⟨"RSVD6", 0x0600, 0x7F00⟩, ⟨"RSVD7", 0x0700, 0x7F00⟩] ++
  [⟨"CLOSE", 0x0800, 0x7F00⟩, ⟨"PING", 0x0900, 0x7F00⟩, ⟨"PONG", 0x0A00, 0x7F00⟩, ⟨"RSVDB", 0x0B00, 0x7F00⟩,
   ⟨"RSVDC", 0x0C00, 0x7F00⟩, ⟨"RSVDD", 0x0D00, 0x7F00⟩, ⟨"RSVDE", 0x0E00, 0x7F00⟩, ⟨"RSVDF", 0x0F00, 0x7F00⟩] ++
  [⟨"RSV1_SET", 0x4000, 0x4000⟩, ⟨"RSV2_SET", 0x2000, 0x6000⟩, ⟨"RSV3_SET", 0x1000, 0x7000⟩]

/-- The two stream bytes of the header word `HW = H0·2^8 + H1` (R58): `H0` comes first. -/
def headerWordBytes (hw : BitVec 16) : List Byte := [hw.extractLsb' 8 8, hw.extractLsb' 0 8]

/-- The header word in the low 16 bits of a table word, the bits above `nbits` zero. -/
def tableHeaderWord (nbits w : Nat) : BitVec 16 := BitVec.ofNat 16 (w % 2 ^ nbits)

/-- The instruction the decoder reads from an opcode-table word: the table's word is the header word `HW` (R58), which
the stream delivers high byte first; every byte after it is zero. The three host commands have no wire encoding, so no
word gives them. -/
def decodeTableWord (nbits w : Nat) : Option Instr :=
  match decode (headerWordBytes (tableHeaderWord nbits w)) with
  | .ok (i, _) => some i
  | .error _ => none

end Sys2Proof
end

