-- ==== Sys2Proof/Machine/State.lean ====
section
/-! DEFINITION. The state: every register of spec/10_state.md, and the two agents outside the block that a step reads or
tells (R14): the host and the stream. All of it is plain data. -/

namespace Sys2Proof.Machine

/-- The sequencer state `SEQ` (R16), the program-counter analogue. -/
inductive Seq where
  /-- no command in progress -/
  | idle
  /-- FDEC is reading header byte 0 -/
  | fdH0
  /-- FDEC is reading header byte 1 -/
  | fdH1
  /-- FDEC is reading the 16-bit extended length -/
  | fdX16
  /-- FDEC is reading the 64-bit extended length -/
  | fdX64
  /-- FDEC is reading the mask key -/
  | fdKey
  /-- FDEC is reading the payload and unmasking it -/
  | fdPay
  /-- FDEC has a complete frame -/
  | fdEnd
  /-- MRD is classifying the frame -/
  | mrDispatch
  /-- a result is waiting for the host -/
  | done
  deriving DecidableEq, Repr

/-- The command in progress, `CMD` (R17). UNMASK never stands here: it completes in the step that accepts it (R27). -/
inductive Cmd where
  | none
  | decodeFrame
  | readMessage
  deriving DecidableEq, Repr

/-- The error kinds with the information they carry (R116). -/
inductive ErrKind where
  /-- the stream's error, passed on unchanged (R117) -/
  | transport (e : TransportError)
  /-- header byte 0 has a reserved bit set; `rsv = H0[6:4]` (R118) -/
  | protocolRsv (rsv : BitVec 3)
  /-- MRD met a reserved opcode (R119) -/
  | protocolOpcode (fin : Bool) (opcode : BitVec 4)
  /-- the close signal (R120) -/
  | close
  /-- the 101st non-returning frame of a call (R121) -/
  | limit
  deriving DecidableEq, Repr

/-- The forms of `RES` (R28). -/
inductive Result where
  | unmasked (data : List Byte) (ofs : BitVec 2)
  | frame (fin : Bool) (opcode : BitVec 4) (masked : Bool) (payload : List Byte)
  | message (opcode : BitVec 4) (payload : List Byte)
  | err (kind : ErrKind)
  deriving DecidableEq, Repr

/-- One item of what the stream agent (R34) will deliver: a byte, or the point at which it answers a read with an error.
A read that finds too few bytes before the end of the list is never answered (log 5). -/
inductive StreamItem where
  | byte (b : Byte)
  | err (e : TransportError)
  deriving DecidableEq, Repr

/-- One move of the host agent (R14, R130; log 10). Every step of the machine consumes the move at the head of the
host's list, but for `whenIdle`, which waits there until `SEQ = IDLE`. An empty list is a host that issues nothing
more. -/
inductive HostMove where
  /-- the host issues the command in this step, whatever the block is doing -/
  | issue (c : Command)
  /-- the host issues the command once no command is in progress: a host that waits for `RES` (R130) -/
  | whenIdle (c : Command)
  /-- the host issues nothing in this step -/
  | pass
  /-- the Connection is destroyed (R138) -/
  | destroy
  deriving DecidableEq, Repr

/-- Which registers have been written since the Connection was created: the "unwritten" state of R31 and R140. -/
structure Written where
  h0 : Bool
  h1 : Bool
  plen : Bool
  pbuf : Bool
  key : Bool
  acc : Bool
  msgOp : Bool
  fcnt : Bool
  res : Bool
  deriving DecidableEq, Repr

/-- The machine: the block's registers (10_state.md), then the agents around it, then the parameters it is built with. -/
structure State where
  /-- `SEQ` (R16) -/
  seq : Seq
  /-- the MODEL's own: the read of this `SEQ` state is answered, and its combinational evaluation is the next step (R15
  makes the two separate steps; log 2) -/
  answered : Bool
  /-- `CMD` (R17) -/
  cmd : Cmd
  /-- `H0` (R18) -/
  h0 : Byte
  /-- `H1` (R18) -/
  h1 : Byte
  /-- `PLEN` (R20) -/
  plen : BitVec 64
  /-- `PBUF` (R21) -/
  pbuf : List Byte
  /-- `KEY[0..3]` (R22) -/
  key : MaskKey
  /-- `CLOSED` (R23) -/
  closed : Bool
  /-- `ACC` (R24) -/
  acc : List Byte
  /-- `MSG_OP` (R25) -/
  msgOp : BitVec 4
  /-- `FCNT` (R26) -/
  fcnt : BitVec 7
  /-- `RES` (R28) -/
  res : Result
  /-- which registers hold a value (R31) -/
  written : Written
  /-- the Connection exists (R138) -/
  live : Bool
  /-- the host agent: its coming moves -/
  host : List HostMove
  /-- the host agent: the results delivered to it, oldest first (R28) -/
  delivered : List Result
  /-- the stream agent: what it has not delivered yet (R34) -/
  stream : List StreamItem
  /-- the parameters of the instance (R8, log 3); no step writes them -/
  params : Params
  deriving DecidableEq, Repr

/-- The reasons of a fault (R126). A fault is terminal, and the host receives no `RES`. -/
inductive Fault where
  /-- a command issued while `SEQ ≠ IDLE` (R128); raised by the three host commands; safe -/
  | concurrent
  /-- DECODE_FRAME or READ_MESSAGE issued while `CLOSED = 1` (R129); raised by those two commands; safe -/
  | callAfterClose
  /-- a payload (R87) or an accumulated message (R99) beyond `ACC_CAP`; raised by FDEC's length check and by the
  accumulation path of CONT, TEXT and BINARY; safe -/
  | capacity
  deriving DecidableEq, Repr

/-- The reasons of a refusal (R127): the model gives no meaning to what follows. -/
inductive Refusal where
  /-- an instruction that has no meaning in the model yet; raised by `exec` alone; safe -/
  | notModelled (mnemonic : String)
  /-- a 64-bit length of 2^63 or more (R86), for which the spec itself says `refuse LEN_MSB_SET`; raised by FDEC's length
  check; safe -/
  | lenMsbSet
  deriving DecidableEq, Repr

/-- What one step ends in. -/
abbrev Outcome := Host.Outcome State Fault Refusal

/-- No register is written at connection reset (R31). -/
def Written.nothing : Written :=
  { h0 := false, h1 := false, plen := false, pbuf := false, key := false, acc := false, msgOp := false, fcnt := false,
    res := false }

/-- Connection reset (R31, R138): `SEQ = IDLE`, `CMD = NONE`, `CLOSED = 0`, nothing written. The registers that hold no
value there stand at zero or empty (DESIGN CHOICE, log 1; unsafe). The host has issued nothing and the stream has
delivered nothing. -/
def State.reset : State :=
  { seq := .idle, answered := false, cmd := .none, h0 := 0, h1 := 0, plen := 0, pbuf := [], key := ⟨0, 0, 0, 0⟩,
    closed := false, acc := [], msgOp := 0, fcnt := 0, res := .unmasked [] 0, written := .nothing, live := true,
    host := [], delivered := [], stream := [], params := Config.params }

end Sys2Proof.Machine
end

