-- ==== Sys2Proof/Machine/Flags.lean ====
section
/-! DEFINITION. The 1-bit status values and header fields (R19, R30). The block has no condition codes. Every field here is
a named view of `H0` or `H1`, not a storage element of its own. -/

namespace Sys2Proof.Machine.State

/-- `FIN = H0[7]`. -/
def fin (s : State) : Bool := (hx0 s.h0).fin

/-- `RSV = H0[6:4]`. -/
def rsv (s : State) : BitVec 3 := (hx0 s.h0).rsv

/-- `RSV1 = H0[6]`. -/
def rsv1 (s : State) : Bool := s.rsv.getLsbD 2

/-- `RSV2 = H0[5]`. -/
def rsv2 (s : State) : Bool := s.rsv.getLsbD 1

/-- `RSV3 = H0[4]`. -/
def rsv3 (s : State) : Bool := s.rsv.getLsbD 0

/-- `OPC = H0[3:0]`. -/
def opc (s : State) : BitVec 4 := (hx0 s.h0).opc

/-- `MASKED = H1[7]`. -/
def masked (s : State) : Bool := (hx1 s.h1).mask

/-- `LEN7 = H1[6:0]`. -/
def len7 (s : State) : BitVec 7 := (hx1 s.h1).len7

end Sys2Proof.Machine.State
end

