-- ==== Sys2Proof/Machine/Operands.lean ====
section
/-! DEFINITION. The operand forms: big-endian integers (R11, R41), the key bytes (R42, R70), and the payload length with
its three forms and its acceptance (R61, R85, R86, R87). -/

namespace Sys2Proof

/-- `be16(s)` of R11: `s[0]·2^8 + s[1]`. -/
def be16 (s : List Byte) : Nat := (s.getD 0 0).toNat * 256 + (s.getD 1 0).toNat

/-- `be64(s)` of R11: the sum over the eight bytes of `s[i]·2^(8·(7−i))`, the highest byte first. -/
def be64 (s : List Byte) : Nat :=
  (((((((s.getD 0 0).toNat * 256 + (s.getD 1 0).toNat) * 256 + (s.getD 2 0).toNat) * 256 + (s.getD 3 0).toNat) * 256 +
    (s.getD 4 0).toNat) * 256 + (s.getD 5 0).toNat) * 256 + (s.getD 6 0).toNat) * 256 + (s.getD 7 0).toNat

/-- `key[i mod 4]` (R42, R70). -/
def MaskKey.lane (k : MaskKey) (i : Nat) : Byte :=
  match i % 4 with
  | 0 => k.k0
  | 1 => k.k1
  | 2 => k.k2
  | _ => k.k3

/-- `KEY[j]` is the j-th byte the key read delivers (R42). -/
def MaskKey.ofBytes (s : List Byte) : MaskKey := ⟨s.getD 0 0, s.getD 1 0, s.getD 2 0, s.getD 3 0⟩

/-- The four bytes of a key, in stream order. -/
def MaskKey.bytes (k : MaskKey) : List Byte := [k.k0, k.k1, k.k2, k.k3]

namespace Machine

/-- Where the payload length comes from (R61, R85). -/
inductive LenSource where
  /-- `LEN7 ≤ 125`: the field itself, no read -/
  | direct
  /-- `LEN7 = 126`: two more bytes -/
  | ext16
  /-- `LEN7 = 127`: eight more bytes -/
  | ext64
  deriving DecidableEq, Repr

/-- The selection of R85, by the literals of R8. -/
def lenSource (len7 : BitVec 7) : LenSource :=
  if len7.toNat ≤ Config.lenDirectMax then .direct else if len7.toNat = Config.len16Esc then .ext16 else .ext64

/-- What becomes of a resolved length: R86, then R87. -/
inductive LenVerdict where
  | accepted
  /-- `refuse LEN_MSB_SET` (R86) -/
  | msbSet
  /-- `fault CAPACITY` (R87) -/
  | overCapacity
  deriving DecidableEq, Repr

/-- Whether `n` bytes exceed the capacity `ACC_CAP`; nothing exceeds the unbounded one (R87, R99). -/
def exceeds (cap : Option Nat) (n : Nat) : Bool :=
  match cap with
  | none => false
  | some c => decide (c < n)

/-- R86, then R87, on a resolved length. -/
def lenVerdict (cap : Option Nat) (plen : BitVec 64) : LenVerdict :=
  if 2 ^ 63 ≤ plen.toNat then .msbSet else if exceeds cap plen.toNat then .overCapacity else .accepted

end Machine

end Sys2Proof
end

