-- ==== Sys2Proof/Machine/Unm.lean ====
section
/-! DEFINITION. UNM, the XOR payload unmasker (R69). -/

namespace Sys2Proof

/-- The bytes of R69: byte `i` is combined with `key[(ofs + i) mod 4]`. The 2-bit offset of the next byte is one more, and
wraps from 3 to 0. -/
def unmBytes (key : MaskKey) : BitVec 2 → List Byte → List Byte
  | _, [] => []
  | ofs, b :: bs => (b ^^^ key.lane ofs.toNat) :: unmBytes key (ofs + 1) bs

/-- `UNM(key, ofs, buf)` of R69: the bytes, and the rolling offset `(ofs + len(buf)) mod 4`. -/
def unm (key : MaskKey) (ofs : BitVec 2) (buf : List Byte) : List Byte × BitVec 2 :=
  (unmBytes key ofs buf, BitVec.ofNat 2 (ofs.toNat + buf.length))

/-- UNM over a list of chunks, the returned offset threaded from one to the next (R48, R75). -/
def unmChunks (key : MaskKey) : BitVec 2 → List (List Byte) → List Byte × BitVec 2
  | ofs, [] => ([], ofs)
  | ofs, c :: cs =>
    let r := unm key ofs c
    let rs := unmChunks key r.2 cs
    (r.1 ++ rs.1, rs.2)

end Sys2Proof
end

