-- ==== Sys2Proof/Machine/Ops.lean ====
section
/-! DEFINITION. The named operations: writing a register, the stream port (R35), ending a command with an error (R115) or
a result (R103), delivering the result (R28), counting a frame (R101), recording an opcode (R100), and accepting a command
(R27, R128, R129). Every write of a register goes through one of these. -/

namespace Sys2Proof.Machine

/-! ### Registers -/

namespace State

/-- `SEQ <- q`. A new `SEQ` state has no answered read yet. -/
def goto (q : Seq) (s : State) : State := { s with seq := q, answered := false }

/-- The read of the present `SEQ` state has been answered; its evaluation is the next step (R15). -/
def setAnswered (s : State) : State := { s with answered := true }

/-- `CMD <- c`. -/
def setCmd (c : Cmd) (s : State) : State := { s with cmd := c }

/-- `H0 <- b`. -/
def setH0 (b : Byte) (s : State) : State := { s with h0 := b, written := { s.written with h0 := true } }

/-- `H1 <- b`. -/
def setH1 (b : Byte) (s : State) : State := { s with h1 := b, written := { s.written with h1 := true } }

/-- `PLEN <- n`, zero-extended to 64 bits (R61). -/
def setPlen (n : Nat) (s : State) : State :=
  { s with plen := BitVec.ofNat 64 n, written := { s.written with plen := true } }

/-- `PBUF <- p`. -/
def setPbuf (p : List Byte) (s : State) : State := { s with pbuf := p, written := { s.written with pbuf := true } }

/-- `KEY <- k`, all four bytes (R22). -/
def setKey (k : MaskKey) (s : State) : State := { s with key := k, written := { s.written with key := true } }

/-- `CLOSED <- 1` (R109). Nothing clears it (R23). -/
def setClosed (s : State) : State := { s with closed := true }

/-- `ACC <- a`. -/
def setAcc (a : List Byte) (s : State) : State := { s with acc := a, written := { s.written with acc := true } }

/-- `MSG_OP <- o`. -/
def setMsgOp (o : BitVec 4) (s : State) : State := { s with msgOp := o, written := { s.written with msgOp := true } }

/-- `FCNT <- n`. -/
def setFcnt (n : BitVec 7) (s : State) : State := { s with fcnt := n, written := { s.written with fcnt := true } }

/-- `RES <- r`. -/
def setRes (r : Result) (s : State) : State := { s with res := r, written := { s.written with res := true } }

/-- The stream agent after a read. -/
def setStream (items : List StreamItem) (s : State) : State := { s with stream := items }

/-- The host agent after a move. -/
def setHost (moves : List HostMove) (s : State) : State := { s with host := moves }

/-- The host receives a result (R28). -/
def deliverToHost (r : Result) (s : State) : State := { s with delivered := s.delivered ++ [r] }

/-- The Connection is destroyed (R138). -/
def destroy (s : State) : State := { s with live := false }

end State

/-! ### Ending a command -/

/-- The numeric code of an error kind (R116, 92 D12); 0 is not used. -/
def ErrKind.code : ErrKind → Nat
  | .transport _ => 1
  | .protocolRsv _ => 2
  | .protocolOpcode _ _ => 3
  | .close => 4
  | .limit => 5

/-- `raise K(info)` (R115), the block's one form of exception entry: `RES <- Err(K, info)`, `SEQ <- DONE`. There is no
vector, no saved state and no mode (R125); nothing is rolled back (R123), and the call registers keep their contents,
which are never returned. -/
def raise (k : ErrKind) (s : State) : State := (s.setRes (.err k)).goto .done

/-- A result that is not an error: `RES <- r`, `SEQ <- DONE` (R91, R103). -/
def returnResult (r : Result) (s : State) : State := (s.setRes r).goto .done

/-- The end of a call (R28, R131), the nearest the block has to a return from an exception (R125): the host receives
`RES`, `SEQ` goes from `DONE` to `IDLE`, and `CMD <- NONE`. -/
def deliver (s : State) : State := ((s.deliverToHost s.res).setCmd .none).goto .idle

/-! ### The stream port -/

/-- The stream's answer to a read (R34). -/
inductive ReadAnswer where
  /-- `DATA(s)`, with what the stream holds after it -/
  | data (bytes : List Byte) (rest : List StreamItem)
  /-- `ERR(e)`, with what the stream holds after it -/
  | error (e : TransportError) (rest : List StreamItem)
  /-- no answer ever (R50) -/
  | noAnswer
  deriving DecidableEq, Repr

/-- The stream's answer to a request for exactly `n` bytes (R35): all `n`, or the error met among them and no bytes
(R47), or no answer when fewer are left. The bytes before an error are lost with it; how many there were the block does
not observe (92 D15, log 5). -/
def streamRead : Nat → List StreamItem → ReadAnswer
  | n, [] => if n = 0 then .data [] [] else .noAnswer
  | n, .err e :: items => if n = 0 then .data [] (.err e :: items) else .error e items
  | n, .byte b :: items =>
    if n = 0 then .data [] (.byte b :: items)
    else
      match streamRead (n - 1) items with
      | .data bs rest => .data (b :: bs) rest
      | .error e rest => .error e rest
      | .noAnswer => .noAnswer

/-- `StreamRead(n)` as one read transaction of the sequencer (R15 (b), R35): with data the step goes on as `k` says, an
error ends the command with `TRANSPORT` (R92, R117), and an unanswered read waits, every register held (R50, R137). -/
def readThen (n : Nat) (s : State) (k : List Byte → State → State) : Outcome :=
  match streamRead n s.stream with
  | .data bs rest => .next (k bs (s.setStream rest))
  | .error e rest => .next (raise (.transport e) (s.setStream rest))
  | .noAnswer => .next s

/-! ### The message reader's shared parts -/

/-- Whether the opcode `opc` of an appended frame is recorded (R100). `overwrite`: when `OPC != 0`. `keep_first`: when
`OPC != 0 and MSG_OP = 0`. -/
def records (policy : RecordPolicy) (msgOp opc : BitVec 4) : Bool :=
  decide (opc ≠ 0) && (decide (msgOp = 0) || decide (policy = .overwrite))

/-- The value of `MSG_OP` after the record (R100). -/
def recordedOp (policy : RecordPolicy) (msgOp opc : BitVec 4) : BitVec 4 :=
  if records policy msgOp opc = true then opc else msgOp

/-- R100: `MSG_OP` is written only when the policy records. -/
def recordOp (opc : BitVec 4) (s : State) : State :=
  if records s.params.recordPolicy s.msgOp opc = true then s.setMsgOp opc else s

/-- R101, after a frame that did not return: count it, and either raise `LIMIT` or go on with the next frame. -/
def countFrame (s : State) : State :=
  if Config.contCap < (s.fcnt + 1).toNat then raise .limit (s.setFcnt (s.fcnt + 1))
  else (s.setFcnt (s.fcnt + 1)).goto .fdH0

/-- A data frame at the dispatch: the fast path of R98, else the accumulation path of R99. -/
def dataFrame (opc : BitVec 4) (fin : Bool) (s : State) : Outcome :=
  if s.acc = [] ∧ fin = true then .next (returnResult (.message opc s.pbuf) s)
  else if exceeds s.params.accCap (s.acc.length + s.pbuf.length) then .fault .capacity
  else
    let t := recordOp opc (s.setAcc (s.acc ++ s.pbuf))
    if fin = true then .next (returnResult (.message t.msgOp t.acc) t) else .next (countFrame t)

/-- A reserved opcode at the dispatch (R110): the error carries the frame's `FIN` and opcode. -/
def reservedFrame (opc : BitVec 4) (fin : Bool) (s : State) : Outcome := .next (raise (.protocolOpcode fin opc) s)

/-- A header byte 0 with a reserved bit set (R83): the error carries the three bits. -/
def reservedBits (rsv : BitVec 3) (s : State) : Outcome := .next (raise (.protocolRsv rsv) s)

/-! ### Accepting a command -/

/-- The checks of the host port for the two commands that read the stream: `CONCURRENT` (R128) before `CALL_AFTER_CLOSE`
(R129). The spec orders them nowhere (DESIGN CHOICE, log 8; safe). -/
def acceptThen (s : State) (k : State → State) : Outcome :=
  if s.seq ≠ .idle then .fault .concurrent
  else if s.closed = true then .fault .callAfterClose
  else .next (k s)

end Sys2Proof.Machine
end

