-- ==== Sys2Proof/Machine/ControlFrames.lean ====
section
/-! DEFINITION. The meanings of the control opcodes at the dispatch (R97): PING, PONG, CLOSE. The payload was read and is
dropped (92 D30); `FIN` and the payload's length are not checked (R93). -/

namespace Sys2Proof.Machine

/-- PING (R107): only the frame counter. -/
def execPing (s : State) : Outcome := .next (countFrame s)

/-- PONG (R108): only the frame counter. -/
def execPong (s : State) : Outcome := .next (countFrame s)

/-- CLOSE (R109): `CLOSED <- 1`, then the close signal. `FCNT` is not incremented. -/
def execClose (s : State) : Outcome := .next (raise .close s.setClosed)

end Sys2Proof.Machine
end

