-- ==== Sys2Proof/Machine/DataFrames.lean ====
section
/-! DEFINITION. The meanings of the data opcodes at the dispatch (R97): CONT, TEXT, BINARY. -/

namespace Sys2Proof.Machine

/-- CONT (R104). `MSG_OP` is never written by it, because opcode 0 is never recorded (R100). -/
def execCont (fin : Bool) (s : State) : Outcome := dataFrame 0 fin s

/-- TEXT (R105). The payload is not checked as text (R93). -/
def execText (fin : Bool) (s : State) : Outcome := dataFrame 1 fin s

/-- BINARY (R106). -/
def execBinary (fin : Bool) (s : State) : Outcome := dataFrame 2 fin s

end Sys2Proof.Machine
end

