-- ==== Sys2Proof/Machine/HostPort.lean ====
section
/-! DEFINITION. The meanings of the three host commands (R27): UNMASK (R78), DECODE_FRAME (R81), READ_MESSAGE (R95). Each
is the acceptance step of R15 (a); the two that read the stream go on step by step from `FD_H0`. -/

namespace Sys2Proof.Machine

/-- UNMASK (R78): it completes, result delivered, in the step that accepts it, and touches no register but `RES`. It is
permitted while `CLOSED = 1`; while another command is in progress it faults (R128, 90 C14). -/
def execUnmask (key : MaskKey) (ofs : BitVec 2) (data : List Byte) (s : State) : Outcome :=
  if s.seq ≠ .idle then .fault .concurrent
  else
    let r := Result.unmasked (unm key ofs data).1 (unm key ofs data).2
    .next ((s.setRes r).deliverToHost r)

/-- DECODE_FRAME accepted (R81): `CMD <- DECODE_FRAME`, `SEQ <- FD_H0`. -/
def execDecodeFrame (s : State) : Outcome := acceptThen s fun s => (s.setCmd .decodeFrame).goto .fdH0

/-- READ_MESSAGE accepted (R95), with the call reset of R32. -/
def execReadMessage (s : State) : Outcome :=
  acceptThen s fun s => ((((s.setCmd .readMessage).setAcc []).setMsgOp 0).setFcnt 0).goto .fdH0

end Sys2Proof.Machine
end

