-- ==== Sys2Proof/Machine/Reserved.lean ====
section
/-! DEFINITION. The meanings of the reserved opcodes at the dispatch (R110), after the whole frame has been read, and of the
three reserved-bit rows (R83), after header byte 0 alone. -/

namespace Sys2Proof.Machine

/-- Opcode 3 (R110). -/
def execRsvd3 (fin : Bool) (s : State) : Outcome := reservedFrame 3 fin s

/-- Opcode 4 (R110). -/
def execRsvd4 (fin : Bool) (s : State) : Outcome := reservedFrame 4 fin s

/-- Opcode 5 (R110). -/
def execRsvd5 (fin : Bool) (s : State) : Outcome := reservedFrame 5 fin s

/-- Opcode 6 (R110). -/
def execRsvd6 (fin : Bool) (s : State) : Outcome := reservedFrame 6 fin s

/-- Opcode 7 (R110). -/
def execRsvd7 (fin : Bool) (s : State) : Outcome := reservedFrame 7 fin s

/-- Opcode 11 (R110). -/
def execRsvdB (fin : Bool) (s : State) : Outcome := reservedFrame 11 fin s

/-- Opcode 12 (R110). -/
def execRsvdC (fin : Bool) (s : State) : Outcome := reservedFrame 12 fin s

/-- Opcode 13 (R110). -/
def execRsvdD (fin : Bool) (s : State) : Outcome := reservedFrame 13 fin s

/-- Opcode 14 (R110). -/
def execRsvdE (fin : Bool) (s : State) : Outcome := reservedFrame 14 fin s

/-- Opcode 15 (R110). -/
def execRsvdF (fin : Bool) (s : State) : Outcome := reservedFrame 15 fin s

/-- RSV1 set (R83): the other two bits as the header has them. -/
def execRsv1Set (rsv2 rsv3 : Bool) (s : State) : Outcome := reservedBits (rsvBits true rsv2 rsv3) s

/-- RSV1 clear, RSV2 set (R83). -/
def execRsv2Set (rsv3 : Bool) (s : State) : Outcome := reservedBits (rsvBits false true rsv3) s

/-- Only RSV3 set (R83). -/
def execRsv3Set (s : State) : Outcome := reservedBits (rsvBits false false true) s

end Sys2Proof.Machine
end

