-- ==== Sys2Proof/Machine/Dispatch.lean ====
section
/-! DEFINITION. One arm per constructor of Instr: a frame header at MRD's dispatch (R97), a reserved-bit header byte 0 at
FDEC's check (R83), a host command at its acceptance (R27). -/

namespace Sys2Proof.Machine

def exec (i : Instr) (s : State) : Host.Outcome State Fault Refusal :=
  match i with
  | .cont fin _ _ => Sys2Proof.Machine.execCont fin s
  | .text fin _ _ => Sys2Proof.Machine.execText fin s
  | .binary fin _ _ => Sys2Proof.Machine.execBinary fin s
  | .rsvd3 fin _ _ => Sys2Proof.Machine.execRsvd3 fin s
  | .rsvd4 fin _ _ => Sys2Proof.Machine.execRsvd4 fin s
  | .rsvd5 fin _ _ => Sys2Proof.Machine.execRsvd5 fin s
  | .rsvd6 fin _ _ => Sys2Proof.Machine.execRsvd6 fin s
  | .rsvd7 fin _ _ => Sys2Proof.Machine.execRsvd7 fin s
  | .close _ _ _ => Sys2Proof.Machine.execClose s
  | .ping _ _ _ => Sys2Proof.Machine.execPing s
  | .pong _ _ _ => Sys2Proof.Machine.execPong s
  | .rsvdB fin _ _ => Sys2Proof.Machine.execRsvdB fin s
  | .rsvdC fin _ _ => Sys2Proof.Machine.execRsvdC fin s
  | .rsvdD fin _ _ => Sys2Proof.Machine.execRsvdD fin s
  | .rsvdE fin _ _ => Sys2Proof.Machine.execRsvdE fin s
  | .rsvdF fin _ _ => Sys2Proof.Machine.execRsvdF fin s
  | .rsv1Set _ rsv2 rsv3 _ => Sys2Proof.Machine.execRsv1Set rsv2 rsv3 s
  | .rsv2Set _ rsv3 _ => Sys2Proof.Machine.execRsv2Set rsv3 s
  | .rsv3Set _ _ => Sys2Proof.Machine.execRsv3Set s
  | .unmask key ofs data => Sys2Proof.Machine.execUnmask key ofs data s
  | .decodeFrame => Sys2Proof.Machine.execDecodeFrame s
  | .readMessage => Sys2Proof.Machine.execReadMessage s

end Sys2Proof.Machine
end

