-- ==== Sys2Proof/Machine/Sequencer.lean ====
section
/-! DEFINITION. The sequencer's own steps: FDEC's reads and evaluations (R82 to R91) and the delivery of a result (R28). A
header that selects an instruction's meaning (R83, R97) is not handled here but decoded and executed (Advance.lean). -/

namespace Sys2Proof.Machine

/-! ### The steps of FDEC -/

/-- `FD_H0`, the read (R82). -/
def readH0 (s : State) : Outcome := readThen 1 s fun bs s => (s.setH0 (bs.getD 0 0)).setAnswered

/-- `FD_H0`, the evaluation when the reserved bits are clear (R83). That HX0's extraction and this check are one step is the
model's choice (log 2). -/
def acceptH0 (s : State) : Outcome := .next (s.goto .fdH1)

/-- `FD_H1`, the read (R84). -/
def readH1 (s : State) : Outcome := readThen 1 s fun bs s => (s.setH1 (bs.getD 0 0)).setAnswered

/-- R86, then R87, then `SEQ <- FD_KEY` (R85). Which step of `SEQ` this belongs to is the model's choice (log 2). -/
def checkLength (s : State) : Outcome :=
  match lenVerdict s.params.accCap s.plen with
  | .msbSet => .refused .lenMsbSet
  | .overCapacity => .fault .capacity
  | .accepted => .next (s.goto .fdKey)

/-- `FD_H1`, the evaluation: the length resolution of R85. R15 (c) lists a header extraction and a length resolution apart
and leaves open whether HX1's extraction (R80, R84) takes a step of its own: that it is one step with the resolution is the
model's choice (log 2). -/
def resolveLength (s : State) : Outcome :=
  match lenSource s.len7 with
  | .direct => checkLength (s.setPlen s.len7.toNat)
  | .ext16 => .next (s.goto .fdX16)
  | .ext64 => .next (s.goto .fdX64)

/-- `FD_X16`, the read of the 16-bit extended length (R85), which writes `PLEN` in its own step (log 2). -/
def readX16 (s : State) : Outcome := readThen 2 s fun bs s => (s.setPlen (be16 bs)).setAnswered

/-- `FD_X64`, the read of the 64-bit extended length (R85), which writes `PLEN` in its own step (log 2). -/
def readX64 (s : State) : Outcome := readThen 8 s fun bs s => (s.setPlen (be64 bs)).setAnswered

/-- `FD_KEY` (R88): the key is read only from a masked frame, also when its payload is empty (R90). An unmasked frame passes
in one step (log 2). -/
def readKey (s : State) : Outcome :=
  if s.masked = true then readThen Config.keyBytes s fun bs s => (s.setKey (MaskKey.ofBytes bs)).goto .fdPay
  else .next (s.goto .fdPay)

/-- `FD_PAY`, the read (R89): the bytes as received (R21). An empty payload issues no read (R37) and passes in one step
(log 2). -/
def readPayload (s : State) : Outcome :=
  if 0 < s.plen.toNat then readThen s.plen.toNat s fun bs s => (s.setPbuf bs).setAnswered
  else .next ((s.setPbuf []).goto .fdEnd)

/-- `FD_PAY`, the evaluation (R89, R77): a masked payload is unmasked in place, from offset 0, and the returned offset is
discarded. That an unmasked payload, with nothing to evaluate, takes this second step too is the model's choice (log 2). -/
def unmaskPayload (s : State) : Outcome :=
  if s.masked = true then .next ((s.setPbuf (unm s.key 0 s.pbuf).1).goto .fdEnd) else .next (s.goto .fdEnd)

/-- `FD_END` (R91): DECODE_FRAME returns the frame, READ_MESSAGE goes on to the dispatch. R15 names no such step; that it
is one of its own is deduced (log 2). -/
def endFrame (s : State) : Outcome :=
  match s.cmd with
  | .decodeFrame => .next (returnResult (.frame s.fin s.opc s.masked s.pbuf) s)
  | .readMessage => .next (s.goto .mrDispatch)
  | .none => .next s

/-- One step of the sequencer in its present `SEQ` state, where no instruction's meaning applies. `IDLE` waits for a
command; a state no rule gives a step to is held. -/
def sequencerStep (s : State) : Outcome :=
  match s.seq, s.answered with
  | .idle, _ => .next s
  | .fdH0, false => readH0 s
  | .fdH0, true => acceptH0 s
  | .fdH1, false => readH1 s
  | .fdH1, true => resolveLength s
  | .fdX16, false => readX16 s
  | .fdX16, true => checkLength s
  | .fdX64, false => readX64 s
  | .fdX64, true => checkLength s
  | .fdKey, _ => readKey s
  | .fdPay, false => readPayload s
  | .fdPay, true => unmaskPayload s
  | .fdEnd, _ => endFrame s
  | .mrDispatch, _ => .next s
  | .done, _ => .next (deliver s)

/-! ### What a step fetches -/

/-- The read request that stands on the stream port in a state (R46): which bytes the step asks for, if any. -/
def State.pendingRead (s : State) : Option Nat :=
  match s.seq, s.answered with
  | .fdH0, false => some 1
  | .fdH1, false => some 1
  | .fdX16, false => some 2
  | .fdX64, false => some 8
  | .fdKey, _ => if s.masked = true then some Config.keyBytes else none
  | .fdPay, false => if 0 < s.plen.toNat then some s.plen.toNat else none
  | .idle, _ => none
  | .fdH0, true => none
  | .fdH1, true => none
  | .fdX16, true => none
  | .fdX64, true => none
  | .fdPay, true => none
  | .fdEnd, _ => none
  | .mrDispatch, _ => none
  | .done, _ => none

/-- The header bytes the step decodes: byte 0 alone at FDEC's reserved-bit check (R83), both at MRD's dispatch (R97). -/
def State.headerBytes (s : State) : List Byte :=
  match s.seq with
  | .fdH0 => if s.answered = true then [s.h0] else []
  | .mrDispatch => [s.h0, s.h1]
  | .idle => []
  | .fdH1 => []
  | .fdX16 => []
  | .fdX64 => []
  | .fdKey => []
  | .fdPay => []
  | .fdEnd => []
  | .done => []

/-- The frame instruction whose meaning the step runs, if the header bytes hold one. At `FD_H0` they do only when a
reserved bit is set; otherwise byte 1 is still to come. -/
def State.headerInstr (s : State) : Option Instr :=
  match decode s.headerBytes with
  | .ok (i, _) => some i
  | .error _ => none

/-- What the host does in the coming step, with the moves it has left after it. -/
inductive Turn where
  | command (c : Command) (rest : List HostMove)
  | destroy (rest : List HostMove)
  | quiet (rest : List HostMove)
  deriving DecidableEq, Repr

/-- The host's turn: a `whenIdle` command waits at the head of the list until `SEQ = IDLE`. -/
def State.turn (s : State) : Turn :=
  match s.host with
  | [] => .quiet []
  | .issue c :: rest => .command c rest
  | .whenIdle c :: rest => if s.seq = .idle then .command c rest else .quiet (.whenIdle c :: rest)
  | .pass :: rest => .quiet rest
  | .destroy :: rest => .destroy rest

end Sys2Proof.Machine
end

