-- ==== Sys2Proof/Machine/Advance.lean ====
section
/-! DEFINITION. One atomic step (R15): the host's turn, then the instruction at the port it arrives by, or the
sequencer's own step; and the placing of a header word as the next instruction. -/

namespace Sys2Proof.Machine

/-- The block's own step, the host issuing nothing: the frame instruction in the header registers where one is due, else
the sequencer's step. -/
def advance (s : State) : Outcome :=
  match s.headerInstr with
  | some i => exec i s
  | none => sequencerStep s

/-- One step. Once the Connection is destroyed no command is accepted and nothing moves (R138, log 7). -/
def takeStep (s : State) : Outcome :=
  match s.live, s.turn with
  | true, .command c rest => exec c.toInstr (s.setHost rest)
  | true, .destroy rest => .next (s.setHost rest).destroy
  | true, .quiet rest => advance (s.setHost rest)
  | false, .command _ rest => .next (s.setHost rest)
  | false, .destroy rest => .next (s.setHost rest)
  | false, .quiet rest => .next (s.setHost rest)

/-- The host issues nothing in the coming step; what it had left comes after it. -/
def State.quietHost (s : State) : State :=
  match s.host with
  | [] => s
  | m :: ms => s.setHost (.pass :: m :: ms)

/-- The payload length of a header whose extended-length bytes are all zero. -/
def zeroExtendedLength (len7 : BitVec 7) : Nat :=
  match lenSource len7 with
  | .direct => len7.toNat
  | .ext16 => 0
  | .ext64 => 0

/-- `s` at the point where the header word `hw` is the instruction of the very next step (log 6). A header with a reserved
bit set stands latched in `H0` at FDEC's check. Any other stands in `H0` and `H1` at MRD's dispatch, with what FDEC
leaves there when every byte after the header is zero: the length, a zero key when masked, and a payload that unmasks
to zeros. -/
def State.placeHeader (s : State) (hw : BitVec 16) : State :=
  let b0 : Byte := hw.extractLsb' 8 8
  let b1 : Byte := hw.extractLsb' 0 8
  let t := ({ s with live := true }.quietHost).setCmd .readMessage
  if (hx0 b0).rsv = 0 then
    let n := zeroExtendedLength (hx1 b1).len7
    let u := ((t.setH0 b0).setH1 b1).setPlen n
    let v := if (hx1 b1).mask = true then u.setKey ⟨0, 0, 0, 0⟩ else u
    (v.setPbuf (List.replicate n 0)).goto .mrDispatch
  else ((t.setH0 b0).goto .fdH0).setAnswered

end Sys2Proof.Machine
end

