-- ==== Sys2Proof/Machine/Step.lean ====
section
/-! DEFINITION. The step, and the placing of an opcode-table word where the step fetches. -/

namespace Sys2Proof.Machine

/-- One step of the machine. -/
def step (s : State) : Host.Outcome State Fault Refusal := takeStep s

/-- `s` with the header word of an opcode-table row as the instruction of the very next step. -/
def State.withFetchWord (s : State) (nbits w : Nat) : State := s.placeHeader (tableHeaderWord nbits w)

end Sys2Proof.Machine
end

