-- ==== Sys2Proof/Machine/Listing.lean ====
section
/-! DEFINITION. The spec's own listings of the whole of FDEC (R94) and of the whole of MRD (R114), as functions of the
stream. The machine does not call them: claims say that its steps compute them. -/

namespace Sys2Proof.Machine

/-- The frame FDEC yields (R94). -/
structure DecodedFrame where
  fin : Bool
  opcode : BitVec 4
  masked : Bool
  payload : List Byte
  deriving DecidableEq, Repr

/-- How `decode_frame()` ends, with `KEY` and the stream as it leaves them. -/
inductive FrameEnd where
  | frame (f : DecodedFrame) (key : MaskKey) (rest : List StreamItem)
  | raised (k : ErrKind) (key : MaskKey) (rest : List StreamItem)
  | fault (r : Fault)
  | refused (r : Refusal)
  /-- a read is never answered (R50) -/
  | waiting
  deriving DecidableEq, Repr

/-- A `StreamRead` of the listing: `Transport(e)` at the point of the read (R94). -/
def listRead (n : Nat) (key : MaskKey) (items : List StreamItem) (k : List Byte → List StreamItem → FrameEnd) :
    FrameEnd :=
  match streamRead n items with
  | .data bs rest => k bs rest
  | .error e rest => .raised (.transport e) key rest
  | .noAnswer => .waiting

/-- The listing from the payload read on. -/
def listPayload (b0 b1 : Byte) (n : Nat) (key : MaskKey) (items : List StreamItem) : FrameEnd :=
  let yields (p : List Byte) : DecodedFrame :=
    { fin := (hx0 b0).fin, opcode := (hx0 b0).opc, masked := (hx1 b1).mask, payload := p }
  if 0 < n then
    listRead n key items fun p rest => .frame (yields (if (hx1 b1).mask = true then (unm key 0 p).1 else p)) key rest
  else .frame (yields []) key items

/-- The listing from the length checks on. -/
def listTail (cap : Option Nat) (b0 b1 : Byte) (n : Nat) (key : MaskKey) (items : List StreamItem) : FrameEnd :=
  if 2 ^ 63 ≤ n then .refused .lenMsbSet
  else if exceeds cap n then .fault .capacity
  else if (hx1 b1).mask = true then
    listRead 4 key items fun s rest => listPayload b0 b1 n (MaskKey.ofBytes s) rest
  else listPayload b0 b1 n key items

/-- `decode_frame()` of R94. -/
def decodeFrameListing (cap : Option Nat) (key : MaskKey) (items : List StreamItem) : FrameEnd :=
  listRead 1 key items fun s0 r0 =>
    let b0 := s0.getD 0 0
    if (hx0 b0).rsv ≠ 0 then .raised (.protocolRsv (hx0 b0).rsv) key r0
    else
      listRead 1 key r0 fun s1 r1 =>
        let b1 := s1.getD 0 0
        if (hx1 b1).len7.toNat ≤ 125 then listTail cap b0 b1 (hx1 b1).len7.toNat key r1
        else if (hx1 b1).len7.toNat = 126 then listRead 2 key r1 fun x r2 => listTail cap b0 b1 (be16 x) key r2
        else listRead 8 key r1 fun x r2 => listTail cap b0 b1 (be64 x) key r2

/-- How a call ends: the result, whether it set `CLOSED`, and `KEY` and the stream as it leaves them. -/
inductive CallEnd where
  | result (r : Result) (closes : Bool) (key : MaskKey) (rest : List StreamItem)
  | fault (r : Fault)
  | refused (r : Refusal)
  | waiting
  deriving DecidableEq, Repr

/-- `DECODE_FRAME` as one listing: R94, then R91. -/
def decodeCallListing (p : Params) (key : MaskKey) (items : List StreamItem) : CallEnd :=
  match decodeFrameListing p.accCap key items with
  | .frame f key rest => .result (.frame f.fin f.opcode f.masked f.payload) false key rest
  | .raised k key rest => .result (.err k) false key rest
  | .fault r => .fault r
  | .refused r => .refused r
  | .waiting => .waiting

/-- What the body of R114's loop does with one frame. -/
inductive Verdict where
  | returns (r : Result) (closes : Bool)
  | fault (r : Fault)
  /-- a non-returning frame, with `ACC` and `MSG_OP` after it -/
  | goesOn (acc : List Byte) (msgOp : BitVec 4)
  deriving DecidableEq, Repr

/-- The `case OPC of` of R114. -/
def frameVerdict (p : Params) (acc : List Byte) (msgOp : BitVec 4) (f : DecodedFrame) : Verdict :=
  match f.opcode.toNat with
  | 0 | 1 | 2 =>
    if acc = [] ∧ f.fin = true then .returns (.message f.opcode f.payload) false
    else if exceeds p.accCap (acc.length + f.payload.length) then .fault .capacity
    else if f.fin = true then
      .returns (.message (recordedOp p.recordPolicy msgOp f.opcode) (acc ++ f.payload)) false
    else .goesOn (acc ++ f.payload) (recordedOp p.recordPolicy msgOp f.opcode)
  | 9 | 10 => .goesOn acc msgOp
  | 8 => .returns (.err .close) true
  | _ => .returns (.err (.protocolOpcode f.fin f.opcode)) false

/-- One turn of R114's loop, `again` being what follows a non-returning frame. -/
def loopTurn (p : Params) (key : MaskKey) (acc : List Byte) (msgOp : BitVec 4) (items : List StreamItem)
    (again : MaskKey → List Byte → BitVec 4 → List StreamItem → CallEnd) : CallEnd :=
  match decodeFrameListing p.accCap key items with
  | .frame f key rest =>
    match frameVerdict p acc msgOp f with
    | .returns r closes => .result r closes key rest
    | .fault r => .fault r
    | .goesOn acc msgOp => again key acc msgOp rest
  | .raised k key rest => .result (.err k) false key rest
  | .fault r => .fault r
  | .refused r => .refused r
  | .waiting => .waiting

/-- R114's loop, with `left` non-returning frames still tolerated: `FCNT = 100 − left`. -/
def readLoop (p : Params) : Nat → MaskKey → List Byte → BitVec 4 → List StreamItem → CallEnd
  | 0, key, acc, msgOp, items =>
    loopTurn p key acc msgOp items fun key _ _ rest => .result (.err .limit) false key rest
  | left + 1, key, acc, msgOp, items =>
    loopTurn p key acc msgOp items fun key acc msgOp rest => readLoop p left key acc msgOp rest

/-- `read_message()` of R114. -/
def readCallListing (p : Params) (key : MaskKey) (items : List StreamItem) : CallEnd := readLoop p 100 key [] 0 items

end Sys2Proof.Machine
end

