-- ==== Sys2Proof/Machine/Wire.lean ====
section
/-! DEFINITION. Whole frames on the wire: the layout of R56, the six formats of R59, the lengths of R60, and the encoding
of the frame notation of R68. The block itself encodes nothing (R38): this is what a peer sends. -/

namespace Sys2Proof

/-- A length as two bytes, big-endian (R41). -/
def ext16Bytes (n : Nat) : List Byte := [BitVec.ofNat 8 (n / 2 ^ 8), BitVec.ofNat 8 n]

/-- A length as eight bytes, big-endian (R41). -/
def ext64Bytes (n : Nat) : List Byte :=
  [BitVec.ofNat 8 (n / 2 ^ 56), BitVec.ofNat 8 (n / 2 ^ 48), BitVec.ofNat 8 (n / 2 ^ 40), BitVec.ofNat 8 (n / 2 ^ 32),
   BitVec.ofNat 8 (n / 2 ^ 24), BitVec.ofNat 8 (n / 2 ^ 16), BitVec.ofNat 8 (n / 2 ^ 8), BitVec.ofNat 8 n]

/-- The shortest form that holds a length, R68's default for `len=`. -/
def shortestForm (n : Nat) : LenForm :=
  if n ≤ Config.lenDirectMax then .len7 else if n < 2 ^ 16 then .len16 else .len64

namespace WireFrame

/-- The frame is masked. -/
def masked (f : WireFrame) : Bool := f.key.isSome

/-- The 7-bit length field: the length itself or an escape (R57). -/
def len7 (f : WireFrame) : BitVec 7 :=
  match f.form with
  | .len7 => BitVec.ofNat 7 f.payload.length
  | .len16 => BitVec.ofNat 7 Config.len16Esc
  | .len64 => BitVec.ofNat 7 Config.len64Esc

/-- The extended-length bytes. -/
def extBytes (f : WireFrame) : List Byte :=
  match f.form with
  | .len7 => []
  | .len16 => ext16Bytes f.payload.length
  | .len64 => ext64Bytes f.payload.length

/-- The key bytes. -/
def keyBytes (f : WireFrame) : List Byte :=
  match f.key with
  | some k => k.bytes
  | none => []

/-- The payload as sent: `payload[i] ⊕ k[i mod 4]` in a masked frame (R68). -/
def sentPayload (f : WireFrame) : List Byte :=
  match f.key with
  | some k => (unm k 0 f.payload).1
  | none => f.payload

/-- The frame's bytes, in stream order (R56). -/
def bytes (f : WireFrame) : List Byte :=
  [byte0 f.fin f.rsv f.opc, byte1 f.masked f.len7] ++ f.extBytes ++ f.keyBytes ++ f.sentPayload

end WireFrame

/-- The header format of a `LEN7` and `MASK` (R59). -/
def formatOf (len7 : BitVec 7) (masked : Bool) : Format :=
  if len7.toNat ≤ Config.lenDirectMax then (if masked then .sm else .s)
  else if len7.toNat = Config.len16Esc then (if masked then .e16m else .e16)
  else (if masked then .e64m else .e64)

/-- The header bytes of each format, and so the byte index of the payload (R59). -/
def Format.headerBytes : Format → Nat
  | .s => 2
  | .sm => 6
  | .e16 => 4
  | .e16m => 8
  | .e64 => 10
  | .e64m => 14

end Sys2Proof
end

