-- ==== Sys2Proof/Safety.lean ====
section
/-! DEFINITION. The terms claims use: runs, what a safe run is (R126), when the block waits (R50), which registers a state
still has to read (R33), the invariant of every reachable state, and the renaming of transport errors. -/

namespace Sys2Proof.Machine

/-! ### Runs -/

/-- `k` steps of the machine. -/
def run (k : Nat) (s : State) : Outcome := Host.Core.run Sys2Proof.core k s

/-- Some number of steps leads from `s` to `t`. -/
def Reaches (s t : State) : Prop := ∃ k, run k s = .next t

/-- Some number of steps from `s` ends in the fault `r`. -/
def Faults (s : State) (r : Fault) : Prop := ∃ k, run k s = .fault r

/-- Some number of steps from `s` ends in the refusal `r`. -/
def Refuses (s : State) (r : Refusal) : Prop := ∃ k, run k s = .refused r

/-- A safe run reaches no fault (R126: a claim must prove that none is reached). -/
def Safe (s : State) : Prop := ∀ r, ¬ Faults s r

/-- The block waits for a read the stream never answers (R50, R137). -/
def Waiting (s : State) : Prop := ∃ n, s.pendingRead = some n ∧ streamRead n s.stream = .noAnswer

/-- A host that issues a command only when none is in progress (R130, R141). -/
def Polite (moves : List HostMove) : Prop := ∀ c, HostMove.issue c ∉ moves

/-- Bytes the stream delivers without an error. -/
def streamOf (bytes : List Byte) : List StreamItem := bytes.map .byte

/-! ### Which registers are in use -/

/-- The frame's byte 1 is due or has been read. -/
def Seq.afterH0 : Seq → Bool
  | .fdH1 | .fdX16 | .fdX64 | .fdKey | .fdPay | .fdEnd | .mrDispatch => true
  | .idle | .fdH0 | .done => false

/-- Both header bytes have been read and the length source is known. -/
def Seq.afterH1 : Seq → Bool
  | .fdX16 | .fdX64 | .fdKey | .fdPay | .fdEnd | .mrDispatch => true
  | .idle | .fdH0 | .fdH1 | .done => false

/-- The length has been resolved and accepted. -/
def Seq.afterLength : Seq → Bool
  | .fdKey | .fdPay | .fdEnd | .mrDispatch => true
  | .idle | .fdH0 | .fdH1 | .fdX16 | .fdX64 | .done => false

namespace State

/-- `H0` holds the present frame's byte 0. -/
def usesH0 (s : State) : Prop := (s.seq = .fdH0 ∧ s.answered = true) ∨ s.seq.afterH0 = true

/-- `H1` holds the present frame's byte 1. -/
def usesH1 (s : State) : Prop := (s.seq = .fdH1 ∧ s.answered = true) ∨ s.seq.afterH1 = true

/-- `PLEN` holds the present frame's length. -/
def usesPlen (s : State) : Prop :=
  ((s.seq = .fdX16 ∨ s.seq = .fdX64) ∧ s.answered = true) ∨ s.seq.afterLength = true

/-- `KEY` holds the present frame's key, and the payload is still to be unmasked with it. -/
def usesKey (s : State) : Prop := s.seq = .fdPay ∧ s.masked = true

/-- `PBUF` holds the present frame's payload. -/
def usesPbuf (s : State) : Prop := (s.seq = .fdPay ∧ s.answered = true) ∨ s.seq = .fdEnd ∨ s.seq = .mrDispatch

/-- `ACC`, `MSG_OP` and `FCNT` belong to the call in progress. -/
def usesCall (s : State) : Prop :=
  s.seq = .mrDispatch ∨ (s.cmd = .readMessage ∧ s.seq ≠ .idle ∧ s.seq ≠ .done)

/-- `RES` waits for the host. -/
def usesRes (s : State) : Prop := s.seq = .done

end State

/-- Two states that differ at most in registers no longer or not yet in use, and in the record of what has been written.
`KEY`, the frame registers, the call registers and `RES` may hold anything left over (R22, R33, R140). -/
structure SameInUse (s t : State) : Prop where
  seq : s.seq = t.seq
  answered : s.answered = t.answered
  cmd : s.cmd = t.cmd
  closed : s.closed = t.closed
  live : s.live = t.live
  host : s.host = t.host
  delivered : s.delivered = t.delivered
  stream : s.stream = t.stream
  params : s.params = t.params
  h0 : s.usesH0 → s.h0 = t.h0
  h1 : s.usesH1 → s.h1 = t.h1
  plen : s.usesPlen → s.plen = t.plen
  key : s.usesKey → s.key = t.key
  pbuf : s.usesPbuf → s.pbuf = t.pbuf
  call : s.usesCall → s.acc = t.acc ∧ s.msgOp = t.msgOp ∧ s.fcnt = t.fcnt
  res : s.usesRes → s.res = t.res

/-- Two outcomes of the same kind, with related next states or the same reason. -/
def Agree (rel : State → State → Prop) : Outcome → Outcome → Prop
  | .next s, .next t => rel s t
  | .fault a, .fault b => a = b
  | .refused a, .refused b => a = b
  | _, _ => False

/-! ### How a call ends -/

/-- The run from `s`, in which one call is made, ends as `e` says: with its result delivered and `SEQ` back at `IDLE`
(R131), in a fault, in a refusal, or waiting for good with nothing delivered (R50). -/
def Computes (s : State) : CallEnd → Prop
  | .result r closes key rest =>
    ∃ t, Reaches s t ∧ t.seq = .idle ∧ t.cmd = .none ∧ t.delivered = s.delivered ++ [r] ∧ t.closed = closes ∧
      t.key = key ∧ t.stream = rest
  | .fault r => Faults s r
  | .refused r => Refuses s r
  | .waiting => ∃ t, Reaches s t ∧ Waiting t ∧ step t = .next t ∧ t.delivered = s.delivered

/-- The block is ready for a call: the Connection exists, no command is in progress, no close signal was given (R27, R129,
R138). -/
def State.ReadyForCall (s : State) : Prop := s.live = true ∧ s.seq = .idle ∧ s.closed = false

/-- `s` with the host issuing one command and the stream about to deliver `items`. -/
def State.calling (s : State) (c : Command) (items : List StreamItem) : State :=
  { s with host := [.issue c], stream := items }

/-! ### The invariant -/

/-- `PLEN` is what R61 assembles from `LEN7`, in the ranges of R20, accepted by R86 and R87. -/
def State.LengthResolved (s : State) : Prop :=
  (s.len7.toNat ≤ 125 → s.plen.toNat = s.len7.toNat) ∧
  (s.len7.toNat = 126 → s.plen.toNat < 2 ^ 16) ∧
  s.plen.toNat < 2 ^ 63 ∧
  exceeds s.params.accCap s.plen.toNat = false

/-- The results a command can end in (R28, R103, R116). -/
def Result.fits : Cmd → Result → Prop
  | .decodeFrame, .frame _ _ _ _ => True
  | .decodeFrame, .err (.transport _) => True
  | .decodeFrame, .err (.protocolRsv rsv) => rsv ≠ 0
  | .readMessage, .message op _ => op.toNat ≤ 2
  | .readMessage, .err (.transport _) => True
  | .readMessage, .err (.protocolRsv rsv) => rsv ≠ 0
  | .readMessage, .err (.protocolOpcode _ op) => op.toNat ∉ [0, 1, 2, 8, 9, 10]
  | .readMessage, .err .close => True
  | .readMessage, .err .limit => True
  | _, _ => False

/-- What holds of the registers in every state a run from reset can reach. -/
structure Inv (s : State) : Prop where
  /-- a command is in progress exactly when `SEQ ≠ IDLE` (R16, R17) -/
  cmd_idle : s.seq = .idle ↔ s.cmd = .none
  /-- only the five reading states with an evaluation have an answered read (R15) -/
  answered_reads : s.answered = true → s.seq ∈ [.fdH0, .fdH1, .fdX16, .fdX64, .fdPay]
  /-- the dispatch runs for READ_MESSAGE only (R91) -/
  dispatch_cmd : s.seq = .mrDispatch → s.cmd = .readMessage
  /-- after the close signal no command reads the stream (R23, R129) -/
  closed_rests : s.closed = true → s.seq = .idle ∨ s.seq = .done
  /-- a frame read past its byte 0 has its reserved bits clear (R83) -/
  rsv_clear : s.seq.afterH0 = true → s.rsv = 0
  /-- the extended-length states read for their escapes (R85) -/
  ext16_escape : s.seq = .fdX16 → s.len7.toNat = 126
  /-- the same for the 64-bit form -/
  ext64_escape : s.seq = .fdX64 → s.len7.toNat = 127
  /-- a 16-bit length has 16 bits (R20) -/
  ext16_range : s.seq = .fdX16 → s.answered = true → s.plen.toNat < 2 ^ 16
  /-- from the key read on, the length is resolved and accepted (R20, R85) -/
  length_resolved : s.seq.afterLength = true → s.LengthResolved
  /-- `PBUF` has length `PLEN` (R21) -/
  pbuf_length : s.usesPbuf → s.pbuf.length = s.plen.toNat
  /-- `FCNT` stays within its range (R26) -/
  fcnt_range : s.fcnt.toNat ≤ 101
  /-- while a call goes on at most 100 frames have been counted (R102) -/
  fcnt_call : s.usesCall → s.fcnt.toNat ≤ 100
  /-- the recorded opcode is 0, 1 or 2 (R100) -/
  msgOp_range : s.msgOp.toNat ≤ 2
  /-- the accumulator stays within its capacity (R24) -/
  acc_capacity : exceeds s.params.accCap s.acc.length = false
  /-- the result that waits is one the command can end in (R28, R116) -/
  result_fits : s.seq = .done → s.res.fits s.cmd
  /-- every register in use has been written (R31, R140) -/
  written_h0 : s.usesH0 → s.written.h0 = true
  written_h1 : s.usesH1 → s.written.h1 = true
  written_plen : s.usesPlen → s.written.plen = true
  written_key : s.usesKey → s.written.key = true
  written_pbuf : s.usesPbuf → s.written.pbuf = true
  written_call : s.usesCall → s.written.acc = true ∧ s.written.msgOp = true ∧ s.written.fcnt = true
  written_res : s.usesRes → s.written.res = true

/-! ### Renaming transport errors -/

/-- The error values of a stream item, renamed. -/
def StreamItem.mapErr (f : TransportError → TransportError) : StreamItem → StreamItem
  | .byte b => .byte b
  | .err e => .err (f e)

/-- The error value of an error kind, renamed. -/
def ErrKind.mapErr (f : TransportError → TransportError) : ErrKind → ErrKind
  | .transport e => .transport (f e)
  | .protocolRsv rsv => .protocolRsv rsv
  | .protocolOpcode fin opcode => .protocolOpcode fin opcode
  | .close => .close
  | .limit => .limit

/-- The error value of a result, renamed. -/
def Result.mapErr (f : TransportError → TransportError) : Result → Result
  | .unmasked data ofs => .unmasked data ofs
  | .frame fin opcode masked payload => .frame fin opcode masked payload
  | .message opcode payload => .message opcode payload
  | .err k => .err (k.mapErr f)

/-- Every error value of a state, renamed. -/
def State.mapErr (f : TransportError → TransportError) (s : State) : State :=
  { s with res := s.res.mapErr f, delivered := s.delivered.map (Result.mapErr f),
           stream := s.stream.map (StreamItem.mapErr f) }

/-- Every error value of an outcome's next state, renamed. -/
def mapErrOutcome (f : TransportError → TransportError) : Outcome → Outcome
  | .next s => .next (s.mapErr f)
  | .fault r => .fault r
  | .refused r => .refused r

end Sys2Proof.Machine
end

