-- ==== Sys2Proof/Certificates/Slice0/Obligations.lean ====
section
/-! DEFINITION. The statements for the provers. Each docstring names the rules of spec/ it formalises, and says where a
clause is the model's choice (log 9 lists those statements). A next state is written out as a record, so that a statement
of an instruction's result is its frame too: every field not named is unchanged. -/

open Sys2Proof Sys2Proof.Machine

/-! ### UNM (40_unmask.md) -/

/-- R69 to R72: byte `i` of the result is byte `i` of the buffer xor `key[(ofs + i) mod 4]`, the length is kept, and the
returned offset is `(ofs + len(buf)) mod 4`. -/
def Obligations.UnmaskingXorsEachByteWithItsKeyByte : Prop :=
  ∀ (key : MaskKey) (ofs : BitVec 2) (buf : List Byte),
    (unm key ofs buf).1.length = buf.length ∧
    (unm key ofs buf).2.toNat = (ofs.toNat + buf.length) % 4 ∧
    ∀ (i : Nat) (b : Byte), buf[i]? = some b →
      ∃ k, [key.k0, key.k1, key.k2, key.k3][(ofs.toNat + i) % 4]? = some k ∧ (unm key ofs buf).1[i]? = some (b ^^^ k)

/-- R75: two chunks with the returned offset threaded through, and so any number of chunks. -/
def Obligations.UnmaskingComposesOverChunks : Prop :=
  (∀ (key : MaskKey) (ofs : BitVec 2) (a b : List Byte),
    unm key ofs (a ++ b) =
      ((unm key ofs a).1 ++ (unm key (unm key ofs a).2 b).1, (unm key (unm key ofs a).2 b).2)) ∧
  (∀ (key : MaskKey) (ofs : BitVec 2) (chunks : List (List Byte)),
    unmChunks key ofs chunks = unm key ofs chunks.flatten)

/-- R76: unmasking what was masked with the same key and offset gives the original bytes, at once or in any chunks. -/
def Obligations.UnmaskingTwiceRestoresTheBuffer : Prop :=
  ∀ (key : MaskKey) (ofs : BitVec 2) (buf : List Byte),
    unm key ofs (unm key ofs buf).1 = (buf, BitVec.ofNat 2 (ofs.toNat + buf.length)) ∧
    ∀ chunks : List (List Byte), chunks.flatten = (unm key ofs buf).1 →
      unmChunks key ofs chunks = (buf, BitVec.ofNat 2 (ofs.toNat + buf.length))

/-! ### The host port (10_state.md R27, R28; 60_exceptions.md R128, R129) -/

/-- R78: UNMASK while no command is in progress completes in the step that accepts it, with its result delivered; it
writes no register but `RES`, and `CLOSED` does not matter. -/
def Obligations.UnmaskDeliversTheUnmaskedData : Prop :=
  ∀ (key : MaskKey) (ofs : BitVec 2) (data : List Byte) (s : State), s.seq = .idle →
    exec (.unmask key ofs data) s =
      .next { s with res := .unmasked (unm key ofs data).1 (unm key ofs data).2
                     written := { s.written with res := true }
                     delivered := s.delivered ++ [.unmasked (unm key ofs data).1 (unm key ofs data).2] }

/-- R128: any command issued while `SEQ ≠ IDLE` is fault `CONCURRENT`, at its meaning and at the step. For DECODE_FRAME and
READ_MESSAGE with `CLOSED = 1` R129 applies too and the spec orders the two nowhere: `CONCURRENT` there is the model's
choice (log 8). -/
def Obligations.CommandWhileBusyFaults : Prop :=
  ∀ (c : Command) (ms : List HostMove) (s : State), s.seq ≠ .idle →
    exec c.toInstr s = .fault .concurrent ∧
    (s.live = true → s.host = .issue c :: ms → step s = .fault .concurrent)

/-- R129: DECODE_FRAME and READ_MESSAGE fault after the close signal; UNMASK stays permitted. `SEQ = IDLE` is a hypothesis
because a busy block faults for R128 first, which is the model's order (log 8). -/
def Obligations.CallAfterCloseFaults : Prop :=
  ∀ s : State, s.seq = .idle → s.closed = true →
    exec .decodeFrame s = .fault .callAfterClose ∧
    exec .readMessage s = .fault .callAfterClose ∧
    ∀ key ofs data, ∃ t, exec (.unmask key ofs data) s = .next t ∧ t.closed = true

/-- R81, the acceptance: only `CMD` and `SEQ` are written. -/
def Obligations.DecodeFrameIsAcceptedAtIdle : Prop :=
  ∀ s : State, s.seq = .idle → s.closed = false →
    exec .decodeFrame s = .next { s with cmd := .decodeFrame, seq := .fdH0, answered := false }

/-- R95 and R32, the acceptance with the call reset. -/
def Obligations.ReadMessageIsAcceptedWithCallReset : Prop :=
  ∀ s : State, s.seq = .idle → s.closed = false →
    exec .readMessage s =
      .next { s with cmd := .readMessage, acc := [], msgOp := 0, fcnt := 0, seq := .fdH0, answered := false
                     written := { s.written with acc := true, msgOp := true, fcnt := true } }

/-- R128, R142: a host that waits for each result never meets `CONCURRENT`, and goes on waiting. -/
def Obligations.PoliteHostNeverOverlapsCommands : Prop :=
  ∀ s : State, Polite s.host →
    step s ≠ .fault .concurrent ∧ ∀ t, step s = .next t → Polite t.host

/-! ### Encoding (30_encoding.md) -/

/-- R79, R80: the two extractors, as arithmetic on the byte. -/
def Obligations.HeaderExtractorsReadTheirBits : Prop :=
  ∀ b : Byte,
    (hx0 b).fin.toNat = b.toNat / 2 ^ 7 ∧ (hx0 b).rsv.toNat = b.toNat / 2 ^ 4 % 2 ^ 3 ∧
    (hx0 b).opc.toNat = b.toNat % 2 ^ 4 ∧
    (hx1 b).mask.toNat = b.toNat / 2 ^ 7 ∧ (hx1 b).len7.toNat = b.toNat % 2 ^ 7

/-- R64: exactly one row of the opcode table covers any header word, and the decoder reads that row's instruction. -/
def Obligations.DecoderFollowsTheOpcodeTable : Prop :=
  ∀ hw : BitVec 16, ∃ i rest, decode (headerWordBytes hw) = .ok (i, rest) ∧
    (opcodeRows.filter (·.covers hw)).map (·.mnemonic) = [i.mnemonic]

/-- R57, R58, R65: every instruction, with every operand at every value, is read back from its encoding, whatever follows
it. -/
def Obligations.DecodingAnEncodingGivesTheInstruction : Prop :=
  ∀ i : Instr, i.wf = true →
    decodeCode (encode i) = .ok (i, []) ∧
    ∀ bytes rest, encode i = .wire bytes → decode (bytes ++ rest) = .ok (i, rest)

/-- R57, R58, R65: what the decoder reads, the encoder writes: no header byte is read as another's. -/
def Obligations.EncodingADecodingGivesTheBytes : Prop :=
  ∀ (bytes rest : List Byte) (i : Instr), decode bytes = .ok (i, rest) →
    ∃ hd, encode i = .wire hd ∧ bytes = hd ++ rest

/-- R57, R58: header words written out bit by bit, one for each family of the table. -/
def Obligations.WrittenOutHeadersDecode : Prop :=
  decode [0b00000000, 0b00000000] = .ok (.cont false false 0, []) ∧
  decode [0b10000001, 0b10000101] = .ok (.text true true 5, []) ∧
  decode [0b00000010, 0b01111110] = .ok (.binary false false 126, []) ∧
  decode [0b10001000, 0b00000010] = .ok (.close true false 2, []) ∧
  decode [0b10001001, 0b10000000] = .ok (.ping true true 0, []) ∧
  decode [0b10001010, 0b00000000] = .ok (.pong true false 0, []) ∧
  decode [0b00000111, 0b11111111] = .ok (.rsvd7 false true 127, []) ∧
  decode [0b10001111, 0b00000001] = .ok (.rsvdF true false 1, []) ∧
  decode [0b11010001] = .ok (.rsv1Set true false true 1, []) ∧
  decode [0b00111111] = .ok (.rsv2Set false true 15, []) ∧
  decode [0b10010000] = .ok (.rsv3Set true 0, [])

/-- The host's placing of a table word (log 6): after reset, the very next step runs the instruction the decoder reads. -/
def Obligations.PlacedTableWordRunsNext : Prop :=
  ∀ (w : Nat) (i : Instr), decodeTableWord 16 w = some i →
    step (State.reset.withFetchWord 16 w) = exec i (State.reset.withFetchWord 16 w)

/-- R15, R27, R83, R97: a step is the meaning of the instruction that stands where the step fetches, after the host's turn
alone. That the host moves first in a step is the model's order (log 10). -/
def Obligations.StepRunsTheDecodedInstruction : Prop :=
  ∀ (s : State) (ms : List HostMove), s.live = true →
    (∀ c, s.host = .issue c :: ms → step s = exec c.toInstr { s with host := ms }) ∧
    (∀ c, s.host = .whenIdle c :: ms → s.seq = .idle → step s = exec c.toInstr { s with host := ms }) ∧
    (∀ i rest, s.turn = .quiet ms → s.seq = .fdH0 → s.answered = true → decode [s.h0] = .ok (i, rest) →
      step s = exec i { s with host := ms }) ∧
    (∀ i rest, s.turn = .quiet ms → s.seq = .mrDispatch → decode [s.h0, s.h1] = .ok (i, rest) →
      step s = exec i { s with host := ms })

/-! ### FDEC (41_frame_decoder.md) and the stream port (20_memory.md) -/

/-- R34, R35, R47: a read gets exactly the next `n` bytes, or the error met among them, or no answer. The list that stands
for the stream is the model's form of it (log 5). -/
def Obligations.StreamReadIsAllOrNothing : Prop :=
  ∀ (n : Nat) (items : List StreamItem),
    (∀ bytes rest, streamRead n items = .data bytes rest ↔ items = streamOf bytes ++ rest ∧ bytes.length = n) ∧
    (∀ e rest, streamRead n items = .error e rest ↔
      ∃ before, before.length < n ∧ items = streamOf before ++ .err e :: rest) ∧
    (streamRead n items = .noAnswer ↔ ∃ before, before.length < n ∧ items = streamOf before)

/-- R82, R84, R85, R88, R89: what each answered read writes, the host issuing nothing. Where a read leaves `SEQ` is log 2's,
not R88's and R89's: that the key read moves to `FD_PAY` in the same step is deduced, and that an unmasked payload's read
stays in `FD_PAY`, a second step to come, is the model's choice. So is that an extended read writes `PLEN` in its own step. -/
def Obligations.AnsweredReadsLatchTheirRegister : Prop :=
  ∀ (s : State) (ms : List HostMove) (bytes : List Byte) (rest : List StreamItem) (n : Nat),
    s.live = true → s.turn = .quiet ms → s.pendingRead = some n → streamRead n s.stream = .data bytes rest →
    (s.seq = .fdH0 → n = 1 ∧ step s = .next { s with
      host := ms, stream := rest, h0 := bytes.getD 0 0, answered := true, written := { s.written with h0 := true } }) ∧
    (s.seq = .fdH1 → n = 1 ∧ step s = .next { s with
      host := ms, stream := rest, h1 := bytes.getD 0 0, answered := true, written := { s.written with h1 := true } }) ∧
    (s.seq = .fdX16 → n = 2 ∧ step s = .next { s with
      host := ms, stream := rest, plen := BitVec.ofNat 64 (be16 bytes), answered := true
      written := { s.written with plen := true } }) ∧
    (s.seq = .fdX64 → n = 8 ∧ step s = .next { s with
      host := ms, stream := rest, plen := BitVec.ofNat 64 (be64 bytes), answered := true
      written := { s.written with plen := true } }) ∧
    (s.seq = .fdKey → n = 4 ∧ s.masked = true ∧ step s = .next { s with
      host := ms, stream := rest, seq := .fdPay, answered := false
      key := ⟨bytes.getD 0 0, bytes.getD 1 0, bytes.getD 2 0, bytes.getD 3 0⟩
      written := { s.written with key := true } }) ∧
    (s.seq = .fdPay → n = s.plen.toNat ∧ step s = .next { s with
      host := ms, stream := rest, pbuf := bytes, answered := true, written := { s.written with pbuf := true } })

/-- R92, R117: an error on any read ends the command with `Transport(e)`; the registers keep what they held. Where the stream
then stands is the model's choice (log 5). -/
def Obligations.ReadErrorEndsTheCommand : Prop :=
  ∀ (s : State) (ms : List HostMove) (e : TransportError) (rest : List StreamItem) (n : Nat),
    s.live = true → s.turn = .quiet ms → s.pendingRead = some n → streamRead n s.stream = .error e rest →
    step s = .next { s with host := ms, stream := rest, seq := .done, answered := false
                            res := .err (.transport e), written := { s.written with res := true } }

/-- R50, R137: an unanswered read holds `SEQ` and every register. -/
def Obligations.UnansweredReadHoldsEveryRegister : Prop :=
  ∀ (s : State) (ms : List HostMove), s.live = true → s.turn = .quiet ms → Waiting s →
    step s = .next { s with host := ms }

/-- R83: the check after header byte 0. A set reserved bit ends the command with the three bits, byte 1 unread; clear
bits lead to `FD_H1`. That HX0's extraction and the check are one step is the model's choice (log 2). -/
def Obligations.ReservedBitsEndTheCommandAtByteZero : Prop :=
  ∀ (s : State) (ms : List HostMove), s.live = true → s.turn = .quiet ms → s.seq = .fdH0 → s.answered = true →
    (s.rsv ≠ 0 → step s = .next { s with host := ms, seq := .done, answered := false
                                         res := .err (.protocolRsv s.rsv), written := { s.written with res := true } }) ∧
    (s.rsv = 0 → step s = .next { s with host := ms, seq := .fdH1, answered := false })

/-- R83, R118, the three rows: bit 2 of the information is RSV1, bit 1 RSV2, bit 0 RSV3, and the opcode is not carried. -/
def Obligations.ReservedBitRowsRaiseTheirBits : Prop :=
  ∀ (fin rsv2 rsv3 : Bool) (opc : BitVec 4) (s : State),
    (∃ rsv : BitVec 3, rsv.toNat = 4 + 2 * rsv2.toNat + rsv3.toNat ∧
      exec (.rsv1Set fin rsv2 rsv3 opc) s = .next { s with
        res := .err (.protocolRsv rsv), written := { s.written with res := true }, seq := .done, answered := false }) ∧
    (∃ rsv : BitVec 3, rsv.toNat = 2 + rsv3.toNat ∧
      exec (.rsv2Set fin rsv3 opc) s = .next { s with
        res := .err (.protocolRsv rsv), written := { s.written with res := true }, seq := .done, answered := false }) ∧
    exec (.rsv3Set fin opc) s = .next { s with
      res := .err (.protocolRsv 1), written := { s.written with res := true }, seq := .done, answered := false }

/-- R85, R86, R87: the length resolution, by `LEN7`, and what an extended length must pass. That at `FD_H1` HX1's extraction,
the resolution and the checks are one step, and at `FD_X16` and `FD_X64` the checks are the step after the read that writes
`PLEN`, is the model's choice (log 2). -/
def Obligations.LengthIsResolvedByItsForm : Prop :=
  ∀ (s : State) (ms : List HostMove), s.live = true → s.turn = .quiet ms → s.answered = true →
    (s.seq = .fdH1 →
      (s.len7.toNat ≤ 125 → exceeds s.params.accCap s.len7.toNat = false →
        step s = .next { s with host := ms, seq := .fdKey, answered := false
                                plen := s.len7.zeroExtend 64, written := { s.written with plen := true } }) ∧
      (s.len7.toNat ≤ 125 → exceeds s.params.accCap s.len7.toNat = true → step s = .fault .capacity) ∧
      (s.len7.toNat = 126 → step s = .next { s with host := ms, seq := .fdX16, answered := false }) ∧
      (s.len7.toNat = 127 → step s = .next { s with host := ms, seq := .fdX64, answered := false })) ∧
    (s.seq = .fdX16 ∨ s.seq = .fdX64 →
      (2 ^ 63 ≤ s.plen.toNat → step s = .refused .lenMsbSet) ∧
      (s.plen.toNat < 2 ^ 63 → exceeds s.params.accCap s.plen.toNat = true → step s = .fault .capacity) ∧
      (s.plen.toNat < 2 ^ 63 → exceeds s.params.accCap s.plen.toNat = false →
        step s = .next { s with host := ms, seq := .fdKey, answered := false }))

/-- R37, R88, R90: an unmasked frame reads no key and keeps `KEY`; an empty payload issues no read, masked or not. That each
is left in one step is the model's choice (log 2). -/
def Obligations.UnneededReadsAreSkipped : Prop :=
  ∀ (s : State) (ms : List HostMove), s.live = true → s.turn = .quiet ms →
    (s.seq = .fdKey → s.masked = false →
      s.pendingRead = none ∧ step s = .next { s with host := ms, seq := .fdPay, answered := false }) ∧
    (s.seq = .fdPay → s.answered = false → s.plen = 0 →
      s.pendingRead = none ∧ step s = .next { s with host := ms, seq := .fdEnd, answered := false
                                                     pbuf := [], written := { s.written with pbuf := true } })

/-- R77, R89: a masked payload is unmasked in place, from offset 0; an unmasked one stays as received. That the unmasked one
takes a step of its own here, after its read, is the model's choice (log 2). -/
def Obligations.PayloadIsUnmaskedFromOffsetZero : Prop :=
  ∀ (s : State) (ms : List HostMove), s.live = true → s.turn = .quiet ms → s.seq = .fdPay → s.answered = true →
    (s.masked = true →
      step s = .next { s with host := ms, seq := .fdEnd, answered := false, pbuf := (unm s.key 0 s.pbuf).1
                              written := { s.written with pbuf := true } }) ∧
    (s.masked = false → step s = .next { s with host := ms, seq := .fdEnd, answered := false })

/-- R91: DECODE_FRAME returns the frame, whatever its opcode; READ_MESSAGE goes to the dispatch. That this move out of
`FD_END` is one step of its own, which none of R15's four kinds names, is deduced (log 2). -/
def Obligations.CompleteFrameIsReturnedOrDispatched : Prop :=
  ∀ (s : State) (ms : List HostMove), s.live = true → s.turn = .quiet ms → s.seq = .fdEnd →
    (s.cmd = .decodeFrame →
      step s = .next { s with host := ms, seq := .done, answered := false
                              res := .frame s.fin s.opc s.masked s.pbuf, written := { s.written with res := true } }) ∧
    (s.cmd = .readMessage → step s = .next { s with host := ms, seq := .mrDispatch, answered := false })

/-- R35, R37, R46: the request on the stream port is for 1 to 2^63 − 1 bytes. -/
def Obligations.ReadRequestsAreInRange : Prop :=
  ∀ (s : State) (n : Nat), Inv s → s.pendingRead = some n → 1 ≤ n ∧ n ≤ 2 ^ 63 - 1

/-- R38, R44, R47, R49: a step takes from the stream only by the read that stands on the port, and an answered read takes
exactly its bytes from the front. A failed read yields no bytes and its error ends the command (R47, R92). Where the stream
stands after it, here past the bytes before the error and past the error, no rule says: R35, R123 and D15 of
92_eei_decisions.md leave it to the stream, and it is the model's choice (log 5). -/
def Obligations.StreamIsConsumedOnlyByReads : Prop :=
  ∀ s t : State, step s = .next t →
    t.stream = s.stream ∨
    ∃ n, s.pendingRead = some n ∧
      ((∃ bytes, bytes.length = n ∧ s.stream = streamOf bytes ++ t.stream) ∨
       (∃ before e, before.length < n ∧ s.stream = streamOf before ++ .err e :: t.stream ∧
        t.res = .err (.transport e) ∧ t.seq = .done))

/-- R28, R131: the result is delivered in the step from `DONE` to `IDLE`, and `CMD <- NONE`. -/
def Obligations.WaitingResultIsDelivered : Prop :=
  ∀ (s : State) (ms : List HostMove), s.live = true → s.turn = .quiet ms → s.seq = .done →
    step s = .next { s with host := ms, seq := .idle, answered := false, cmd := .none
                            delivered := s.delivered ++ [s.res] }

/-! ### MRD (42_message_reader.md) -/

/-- R98: a final data frame with an empty accumulator returns its own opcode and payload; `MSG_OP` and `FCNT` are not
read. -/
def Obligations.FastPathReturnsTheFrame : Prop :=
  ∀ (masked : Bool) (len7 : BitVec 7) (s : State), s.acc = [] →
    exec (.cont true masked len7) s = .next { s with
      res := .message 0 s.pbuf, written := { s.written with res := true }, seq := .done, answered := false } ∧
    exec (.text true masked len7) s = .next { s with
      res := .message 1 s.pbuf, written := { s.written with res := true }, seq := .done, answered := false } ∧
    exec (.binary true masked len7) s = .next { s with
      res := .message 2 s.pbuf, written := { s.written with res := true }, seq := .done, answered := false }

/-- R99, R100: a final data frame with a non-empty accumulator is appended and the whole message returned, with the opcode
each value of `OPCODE_RECORD_POLICY` gives. -/
def Obligations.FinalFragmentReturnsTheMessage : Prop :=
  ∀ (masked : Bool) (len7 : BitVec 7) (s : State), s.acc ≠ [] →
    exceeds s.params.accCap (s.acc.length + s.pbuf.length) = false →
    exec (.cont true masked len7) s = .next { s with
      acc := s.acc ++ s.pbuf, res := .message s.msgOp (s.acc ++ s.pbuf), seq := .done, answered := false
      written := { s.written with acc := true, res := true } } ∧
    (s.params.recordPolicy = .overwrite ∨ s.msgOp = 0 →
      exec (.text true masked len7) s = .next { s with
        acc := s.acc ++ s.pbuf, msgOp := 1, res := .message 1 (s.acc ++ s.pbuf), seq := .done, answered := false
        written := { s.written with acc := true, msgOp := true, res := true } } ∧
      exec (.binary true masked len7) s = .next { s with
        acc := s.acc ++ s.pbuf, msgOp := 2, res := .message 2 (s.acc ++ s.pbuf), seq := .done, answered := false
        written := { s.written with acc := true, msgOp := true, res := true } }) ∧
    (s.params.recordPolicy = .keepFirst → s.msgOp ≠ 0 →
      exec (.text true masked len7) s = .next { s with
        acc := s.acc ++ s.pbuf, res := .message s.msgOp (s.acc ++ s.pbuf), seq := .done, answered := false
        written := { s.written with acc := true, res := true } } ∧
      exec (.binary true masked len7) s = .next { s with
        acc := s.acc ++ s.pbuf, res := .message s.msgOp (s.acc ++ s.pbuf), seq := .done, answered := false
        written := { s.written with acc := true, res := true } })

/-- R99, R100, R101: a data frame that is not final is appended, its opcode recorded under the policy, and it is counted;
the frame that takes `FCNT` to 101 ends the call with `LIMIT`. -/
def Obligations.FragmentIsAppendedAndCounted : Prop :=
  ∀ (masked : Bool) (len7 : BitVec 7) (s : State) (i : Instr) (opc : BitVec 4),
    (i = .cont false masked len7 ∧ opc = 0) ∨ (i = .text false masked len7 ∧ opc = 1) ∨
      (i = .binary false masked len7 ∧ opc = 2) →
    exceeds s.params.accCap (s.acc.length + s.pbuf.length) = false →
    let records := opc ≠ 0 ∧ (s.params.recordPolicy = .overwrite ∨ s.msgOp = 0)
    let t : State := { s with
      acc := s.acc ++ s.pbuf, msgOp := if records then opc else s.msgOp, fcnt := s.fcnt + 1, answered := false
      written := { s.written with
        acc := true, msgOp := if records then true else s.written.msgOp, fcnt := true } }
    (s.fcnt.toNat < 100 → exec i s = .next { t with seq := .fdH0 }) ∧
    (s.fcnt.toNat = 100 → exec i s = .next { t with
      seq := .done, res := .err .limit, written := { t.written with res := true } })

/-- R99: an append beyond `ACC_CAP` faults; the fast path makes none. -/
def Obligations.AppendBeyondCapacityFaults : Prop :=
  ∀ (fin masked : Bool) (len7 : BitVec 7) (s : State) (cap : Nat),
    s.params.accCap = some cap → cap < s.acc.length + s.pbuf.length → (s.acc ≠ [] ∨ fin = false) →
    exec (.cont fin masked len7) s = .fault .capacity ∧
    exec (.text fin masked len7) s = .fault .capacity ∧
    exec (.binary fin masked len7) s = .fault .capacity

/-- R101, R107, R108: a ping or a pong only counts; the one that takes `FCNT` to 101 ends the call with `LIMIT`. -/
def Obligations.PingAndPongOnlyCount : Prop :=
  ∀ (fin masked : Bool) (len7 : BitVec 7) (s : State) (i : Instr),
    i = .ping fin masked len7 ∨ i = .pong fin masked len7 →
    (s.fcnt.toNat < 100 → exec i s = .next { s with
      fcnt := s.fcnt + 1, seq := .fdH0, answered := false, written := { s.written with fcnt := true } }) ∧
    (s.fcnt.toNat = 100 → exec i s = .next { s with
      fcnt := s.fcnt + 1, seq := .done, answered := false, res := .err .limit
      written := { s.written with fcnt := true, res := true } })

/-- R109, R120: a close frame sets `CLOSED` and ends the call with the close signal; it is not counted. -/
def Obligations.CloseRaisesTheCloseSignal : Prop :=
  ∀ (fin masked : Bool) (len7 : BitVec 7) (s : State),
    exec (.close fin masked len7) s = .next { s with
      closed := true, res := .err .close, seq := .done, answered := false, written := { s.written with res := true } }

/-- R110, R119: each of the ten reserved opcodes ends the call with the frame's `FIN` and opcode; it is not counted. -/
def Obligations.ReservedOpcodesRaiseTheOpcodeError : Prop :=
  ∀ (fin masked : Bool) (len7 : BitVec 7) (s : State),
    let ends (opc : BitVec 4) : Outcome := .next { s with
      res := .err (.protocolOpcode fin opc), seq := .done, answered := false, written := { s.written with res := true } }
    exec (.rsvd3 fin masked len7) s = ends 3 ∧ exec (.rsvd4 fin masked len7) s = ends 4 ∧
    exec (.rsvd5 fin masked len7) s = ends 5 ∧ exec (.rsvd6 fin masked len7) s = ends 6 ∧
    exec (.rsvd7 fin masked len7) s = ends 7 ∧ exec (.rsvdB fin masked len7) s = ends 11 ∧
    exec (.rsvdC fin masked len7) s = ends 12 ∧ exec (.rsvdD fin masked len7) s = ends 13 ∧
    exec (.rsvdE fin masked len7) s = ends 14 ∧ exec (.rsvdF fin masked len7) s = ends 15

/-- R97: the dispatch, from the header registers themselves: data opcodes, then ping and pong, then close, then every
other value. -/
def Obligations.DispatchClassifiesTheOpcode : Prop :=
  ∀ (s : State) (ms : List HostMove), s.live = true → s.turn = .quiet ms → s.seq = .mrDispatch → s.rsv = 0 →
    (s.opc.toNat ≤ 2 → step s = dataFrame s.opc s.fin { s with host := ms }) ∧
    (s.opc = 9 ∨ s.opc = 10 → step s = .next (countFrame { s with host := ms })) ∧
    (s.opc = 8 → step s = .next (raise .close { s with host := ms, closed := true })) ∧
    (s.opc.toNat ∉ [0, 1, 2, 8, 9, 10] →
      step s = .next (raise (.protocolOpcode s.fin s.opc) { s with host := ms }))

/-- R112: an empty non-final first fragment, of any data opcode, does not mark the call as started: a final continuation
after it takes the fast path, and the opcode recorded (none for CONT) is not used. -/
def Obligations.EmptyFirstFragmentStartsNothing : Prop :=
  ∀ (masked masked' : Bool) (len7 len7' : BitVec 7) (s : State) (payload : List Byte),
    s.acc = [] → s.pbuf = [] → s.msgOp = 0 → s.fcnt.toNat < 100 →
    let startsNothing (i : Instr) (op : BitVec 4) : Prop :=
      ∃ t u, exec i s = .next t ∧ t.acc = [] ∧ t.msgOp = op ∧ t.seq = .fdH0 ∧
        exec (.cont true masked' len7') { t with seq := .mrDispatch, pbuf := payload } = .next u ∧
        u.res = .message 0 payload ∧ u.seq = .done
    startsNothing (.text false masked len7) 1 ∧ startsNothing (.binary false masked len7) 2 ∧
    startsNothing (.cont false masked len7) 0

/-- R113: a message with an empty payload always comes from the fast path. -/
def Obligations.EmptyMessageComesFromTheFastPath : Prop :=
  ∀ (s t : State) (op : BitVec 4), s.live = true → s.host = [] → s.seq = .mrDispatch → s.rsv = 0 →
    step s = .next t → t.seq = .done → t.res = .message op [] → s.acc = [] ∧ s.fin = true ∧ op = s.opc

/-- R102: a call tolerates exactly 100 non-returning frames. Here they are any mix of empty pings, pongs and non-final
continuations; after at most 100 of them a final TEXT frame is returned, and the 101st ends the call. -/
def Obligations.CallToleratesExactlyOneHundredFrames : Prop :=
  ∀ (s : State) (frames : List (List Byte)) (b : Byte) (rest : List StreamItem),
    s.ReadyForCall → s.params.accCap = none →
    (∀ f ∈ frames, f = [0x89, 0x00] ∨ f = [0x8A, 0x00] ∨ f = [0x00, 0x00]) →
    (frames.length ≤ 100 →
      Computes (s.calling .readMessage (streamOf (frames.flatten ++ [0x81, 0x01, b]) ++ rest))
        (.result (.message 1 [b]) false s.key rest)) ∧
    (frames.length = 101 →
      Computes (s.calling .readMessage (streamOf frames.flatten ++ rest))
        (.result (.err .limit) false s.key rest))

/-! ### The whole machine -/

/-- R31: connection reset. -/
def Obligations.ResetIsAnIdleConnection : Prop :=
  State.reset.seq = .idle ∧ State.reset.cmd = .none ∧ State.reset.closed = false ∧
  State.reset.written = ⟨false, false, false, false, false, false, false, false, false⟩

/-- The invariant at reset. -/
def Obligations.ResetMeetsTheInvariant : Prop := Inv State.reset

/-- R16 to R28, R31: every step keeps the invariant, whatever the host and the stream do. -/
def Obligations.StepKeepsTheInvariant : Prop := ∀ s t : State, Inv s → step s = .next t → Inv t

/-- R23, R30: `CLOSED` is never cleared, and only a close frame at the dispatch sets it, with the close signal. -/
def Obligations.ClosedIsALatchOfTheCloseSignal : Prop :=
  ∀ s t : State, step s = .next t →
    (s.closed = true → t.closed = true) ∧
    (s.closed = false → t.closed = true →
      s.seq = .mrDispatch ∧ s.opc = 8 ∧ t.res = .err .close ∧ t.seq = .done)

/-- R22, R42, R88: `KEY` changes only by the key read of a masked frame, all four bytes in stream order. -/
def Obligations.KeyIsWrittenOnlyByTheKeyRead : Prop :=
  ∀ s t : State, step s = .next t → t.key ≠ s.key →
    s.seq = .fdKey ∧ s.masked = true ∧
    s.stream = streamOf [t.key.k0, t.key.k1, t.key.k2, t.key.k3] ++ t.stream

/-- R18, R20, R21: the frame registers change only in their own states of FDEC. -/
def Obligations.FrameRegistersHaveOneWriterEach : Prop :=
  ∀ s t : State, step s = .next t →
    (t.h0 ≠ s.h0 → s.seq = .fdH0 ∧ s.stream = .byte t.h0 :: t.stream) ∧
    (t.h1 ≠ s.h1 → s.seq = .fdH1 ∧ s.stream = .byte t.h1 :: t.stream) ∧
    (t.plen ≠ s.plen → s.seq = .fdH1 ∨ s.seq = .fdX16 ∨ s.seq = .fdX64) ∧
    (t.pbuf ≠ s.pbuf → s.seq = .fdPay)

/-- R24, R25, R26: the call registers change only by the call reset and at the dispatch, `ACC` only by appending
`PBUF`, `FCNT` only by one. -/
def Obligations.CallRegistersHaveTheirWriters : Prop :=
  ∀ s t : State, step s = .next t →
    (t.acc ≠ s.acc →
      (s.seq = .idle ∧ t.cmd = .readMessage ∧ t.acc = []) ∨
      (s.seq = .mrDispatch ∧ s.opc.toNat ≤ 2 ∧ t.acc = s.acc ++ s.pbuf)) ∧
    (t.msgOp ≠ s.msgOp →
      (s.seq = .idle ∧ t.cmd = .readMessage ∧ t.msgOp = 0) ∨
      (s.seq = .mrDispatch ∧ (s.opc = 1 ∨ s.opc = 2) ∧ t.msgOp = s.opc)) ∧
    (t.fcnt ≠ s.fcnt →
      (s.seq = .idle ∧ t.cmd = .readMessage ∧ t.fcnt = 0) ∨
      (s.seq = .mrDispatch ∧ t.fcnt = s.fcnt + 1))

/-- R28, R78: the host receives a result only in the step from `DONE` to `IDLE`, or from an UNMASK that it issues in that
step, computed from that command's operands; one result, the contents of `RES`. -/
def Obligations.ResultsReachTheHostOnce : Prop :=
  ∀ s t : State, step s = .next t → t.delivered ≠ s.delivered →
    t.delivered = s.delivered ++ [t.res] ∧ t.seq = .idle ∧
    (s.seq = .done ∨
     (s.seq = .idle ∧ ∃ key ofs data ms, s.turn = .command (.unmask key ofs data) ms ∧
        t.res = .unmasked (unm key ofs data).1 (unm key ofs data).2))

/-- R22, R33, R140: what is left in registers not in use, the reset values among it, is never observed: two machines that
differ only there go on alike, in every result, fault and refusal. -/
def Obligations.LeftOverRegistersAreNeverObserved : Prop :=
  ∀ (k : Nat) (s t : State), SameInUse s t → Agree SameInUse (run k s) (run k t)

/-- R8, R117: a transport error is passed on unchanged and never inspected: renaming the stream's errors renames those of
the results and changes nothing else. The labels are the model's form of the spec's opaque `E` (log 4). -/
def Obligations.TransportErrorsAreNeverInspected : Prop :=
  ∀ (f : TransportError → TransportError) (k : Nat) (s : State), run k (s.mapErr f) = mapErrOutcome f (run k s)

/-- R8, R29: no step changes the parameters, which stand in State by the model's choice (log 3). -/
def Obligations.ParametersAreFixed : Prop := ∀ s t : State, step s = .next t → t.params = s.params

/-- R138: once the Connection is destroyed no command is accepted: every register keeps its value for good. That an issued
command is then dropped without a fault is the model's choice (log 7). -/
def Obligations.DestroyedConnectionAcceptsNothing : Prop :=
  ∀ (k : Nat) (s : State), s.live = false → ∃ ms, run k s = .next { s with host := ms }

/-- R87, R99, R126 (92 D11): with the unbounded `ACC_CAP` a host that issues nothing more reaches no fault. -/
def Obligations.QuietUnboundedRunIsSafe : Prop :=
  ∀ s : State, s.host = [] → s.params.accCap = none → Safe s

/-- R94: DECODE_FRAME, step by step, computes the spec's listing of FDEC: its result, error, fault, refusal or wait, and
`KEY` and the stream as the listing leaves them. -/
def Obligations.DecodeFrameComputesItsListing : Prop :=
  ∀ (s : State) (items : List StreamItem), s.ReadyForCall →
    Computes (s.calling .decodeFrame items) (decodeCallListing s.params s.key items)

/-- R114: READ_MESSAGE, step by step, computes the spec's listing of MRD. -/
def Obligations.ReadMessageComputesItsListing : Prop :=
  ∀ (s : State) (items : List StreamItem), s.ReadyForCall →
    Computes (s.calling .readMessage items) (readCallListing s.params s.key items)

/-- R56, R61, R62, R68: a well-formed frame in any length form, minimal or not, masked or not, decodes to itself, and
exactly its bytes are consumed. -/
def Obligations.SentFrameDecodesToItself : Prop :=
  ∀ (f : WireFrame) (cap : Option Nat) (key : MaskKey) (rest : List StreamItem), f.wf = true →
    exceeds cap f.payload.length = false →
    decodeFrameListing cap key (streamOf f.bytes ++ rest) =
      .frame { fin := f.fin, opcode := f.opc, masked := f.key.isSome, payload := f.payload } (f.key.getD key) rest

/-- R59, R60: a frame's length is its format's header bytes and its payload. -/
def Obligations.FrameLengthIsHeaderAndPayload : Prop :=
  ∀ f : WireFrame, f.wf = true →
    f.bytes.length = (formatOf f.len7 f.masked).headerBytes + f.payload.length ∧
    f.bytes.drop (formatOf f.len7 f.masked).headerBytes = f.sentPayload

/-- E1 of 95_test_vectors.md, R98: a single final TEXT or BINARY frame is returned with its own opcode and payload, in any
length form, masked or not, and exactly its bytes are consumed. -/
def Obligations.SingleFrameMessageIsReturnedUnmodified : Prop :=
  ∀ (s : State) (f : WireFrame) (rest : List StreamItem), s.ReadyForCall → f.wf = true → f.fin = true →
    f.opc = 1 ∨ f.opc = 2 → exceeds s.params.accCap f.payload.length = false →
    Computes (s.calling .readMessage (streamOf f.bytes ++ rest))
      (.result (.message f.opc f.payload) false (f.key.getD s.key) rest)

/-- R102, R131, R148: a call in progress ends unless it waits for the stream: it is back at `IDLE`, waits, faults or is
refused. The bound of 1112 steps is the model's number, not the spec's, which counts no steps: it counts the steps as log 2
fixes them, eleven for each of at most 101 frames, and the delivery. -/
def Obligations.CallEndsUnlessTheStreamWithholds : Prop :=
  ∀ s : State, Inv s → s.live = true → s.host = [] →
    ∃ k ≤ 1112, match run k s with
      | .next t => t.seq = .idle ∨ Waiting t
      | .fault r => r = .capacity
      | .refused r => r = .lenMsbSet
end

