-- ==== Sys2Proof/Laws/State.lean ====
section
/-! SUPPORT. One lemma per field per register update, so that no proof unfolds a record update. -/

namespace Sys2Proof.Machine.State

variable (s : State)

/-! `goto` -/

@[simp] theorem goto_seq (q : Seq) : (s.goto q).seq = q := rfl
@[simp] theorem goto_answered (q : Seq) : (s.goto q).answered = false := rfl
@[simp] theorem goto_cmd (q : Seq) : (s.goto q).cmd = s.cmd := rfl
@[simp] theorem goto_h0 (q : Seq) : (s.goto q).h0 = s.h0 := rfl
@[simp] theorem goto_h1 (q : Seq) : (s.goto q).h1 = s.h1 := rfl
@[simp] theorem goto_plen (q : Seq) : (s.goto q).plen = s.plen := rfl
@[simp] theorem goto_pbuf (q : Seq) : (s.goto q).pbuf = s.pbuf := rfl
@[simp] theorem goto_key (q : Seq) : (s.goto q).key = s.key := rfl
@[simp] theorem goto_closed (q : Seq) : (s.goto q).closed = s.closed := rfl
@[simp] theorem goto_acc (q : Seq) : (s.goto q).acc = s.acc := rfl
@[simp] theorem goto_msgOp (q : Seq) : (s.goto q).msgOp = s.msgOp := rfl
@[simp] theorem goto_fcnt (q : Seq) : (s.goto q).fcnt = s.fcnt := rfl
@[simp] theorem goto_res (q : Seq) : (s.goto q).res = s.res := rfl
@[simp] theorem goto_written (q : Seq) : (s.goto q).written = s.written := rfl
@[simp] theorem goto_live (q : Seq) : (s.goto q).live = s.live := rfl
@[simp] theorem goto_host (q : Seq) : (s.goto q).host = s.host := rfl
@[simp] theorem goto_delivered (q : Seq) : (s.goto q).delivered = s.delivered := rfl
@[simp] theorem goto_stream (q : Seq) : (s.goto q).stream = s.stream := rfl
@[simp] theorem goto_params (q : Seq) : (s.goto q).params = s.params := rfl

/-! `setAnswered` -/

@[simp] theorem setAnswered_seq : (s.setAnswered).seq = s.seq := rfl
@[simp] theorem setAnswered_answered : (s.setAnswered).answered = true := rfl
@[simp] theorem setAnswered_cmd : (s.setAnswered).cmd = s.cmd := rfl
@[simp] theorem setAnswered_h0 : (s.setAnswered).h0 = s.h0 := rfl
@[simp] theorem setAnswered_h1 : (s.setAnswered).h1 = s.h1 := rfl
@[simp] theorem setAnswered_plen : (s.setAnswered).plen = s.plen := rfl
@[simp] theorem setAnswered_pbuf : (s.setAnswered).pbuf = s.pbuf := rfl
@[simp] theorem setAnswered_key : (s.setAnswered).key = s.key := rfl
@[simp] theorem setAnswered_closed : (s.setAnswered).closed = s.closed := rfl
@[simp] theorem setAnswered_acc : (s.setAnswered).acc = s.acc := rfl
@[simp] theorem setAnswered_msgOp : (s.setAnswered).msgOp = s.msgOp := rfl
@[simp] theorem setAnswered_fcnt : (s.setAnswered).fcnt = s.fcnt := rfl
@[simp] theorem setAnswered_res : (s.setAnswered).res = s.res := rfl
@[simp] theorem setAnswered_written : (s.setAnswered).written = s.written := rfl
@[simp] theorem setAnswered_live : (s.setAnswered).live = s.live := rfl
@[simp] theorem setAnswered_host : (s.setAnswered).host = s.host := rfl
@[simp] theorem setAnswered_delivered : (s.setAnswered).delivered = s.delivered := rfl
@[simp] theorem setAnswered_stream : (s.setAnswered).stream = s.stream := rfl
@[simp] theorem setAnswered_params : (s.setAnswered).params = s.params := rfl

/-! `setCmd` -/

@[simp] theorem setCmd_seq (c : Cmd) : (s.setCmd c).seq = s.seq := rfl
@[simp] theorem setCmd_answered (c : Cmd) : (s.setCmd c).answered = s.answered := rfl
@[simp] theorem setCmd_cmd (c : Cmd) : (s.setCmd c).cmd = c := rfl
@[simp] theorem setCmd_h0 (c : Cmd) : (s.setCmd c).h0 = s.h0 := rfl
@[simp] theorem setCmd_h1 (c : Cmd) : (s.setCmd c).h1 = s.h1 := rfl
@[simp] theorem setCmd_plen (c : Cmd) : (s.setCmd c).plen = s.plen := rfl
@[simp] theorem setCmd_pbuf (c : Cmd) : (s.setCmd c).pbuf = s.pbuf := rfl
@[simp] theorem setCmd_key (c : Cmd) : (s.setCmd c).key = s.key := rfl
@[simp] theorem setCmd_closed (c : Cmd) : (s.setCmd c).closed = s.closed := rfl
@[simp] theorem setCmd_acc (c : Cmd) : (s.setCmd c).acc = s.acc := rfl
@[simp] theorem setCmd_msgOp (c : Cmd) : (s.setCmd c).msgOp = s.msgOp := rfl
@[simp] theorem setCmd_fcnt (c : Cmd) : (s.setCmd c).fcnt = s.fcnt := rfl
@[simp] theorem setCmd_res (c : Cmd) : (s.setCmd c).res = s.res := rfl
@[simp] theorem setCmd_written (c : Cmd) : (s.setCmd c).written = s.written := rfl
@[simp] theorem setCmd_live (c : Cmd) : (s.setCmd c).live = s.live := rfl
@[simp] theorem setCmd_host (c : Cmd) : (s.setCmd c).host = s.host := rfl
@[simp] theorem setCmd_delivered (c : Cmd) : (s.setCmd c).delivered = s.delivered := rfl
@[simp] theorem setCmd_stream (c : Cmd) : (s.setCmd c).stream = s.stream := rfl
@[simp] theorem setCmd_params (c : Cmd) : (s.setCmd c).params = s.params := rfl

/-! `setClosed` -/

@[simp] theorem setClosed_seq : (s.setClosed).seq = s.seq := rfl
@[simp] theorem setClosed_answered : (s.setClosed).answered = s.answered := rfl
@[simp] theorem setClosed_cmd : (s.setClosed).cmd = s.cmd := rfl
@[simp] theorem setClosed_h0 : (s.setClosed).h0 = s.h0 := rfl
@[simp] theorem setClosed_h1 : (s.setClosed).h1 = s.h1 := rfl
@[simp] theorem setClosed_plen : (s.setClosed).plen = s.plen := rfl
@[simp] theorem setClosed_pbuf : (s.setClosed).pbuf = s.pbuf := rfl
@[simp] theorem setClosed_key : (s.setClosed).key = s.key := rfl
@[simp] theorem setClosed_closed : (s.setClosed).closed = true := rfl
@[simp] theorem setClosed_acc : (s.setClosed).acc = s.acc := rfl
@[simp] theorem setClosed_msgOp : (s.setClosed).msgOp = s.msgOp := rfl
@[simp] theorem setClosed_fcnt : (s.setClosed).fcnt = s.fcnt := rfl
@[simp] theorem setClosed_res : (s.setClosed).res = s.res := rfl
@[simp] theorem setClosed_written : (s.setClosed).written = s.written := rfl
@[simp] theorem setClosed_live : (s.setClosed).live = s.live := rfl
@[simp] theorem setClosed_host : (s.setClosed).host = s.host := rfl
@[simp] theorem setClosed_delivered : (s.setClosed).delivered = s.delivered := rfl
@[simp] theorem setClosed_stream : (s.setClosed).stream = s.stream := rfl
@[simp] theorem setClosed_params : (s.setClosed).params = s.params := rfl

/-! `setStream` -/

@[simp] theorem setStream_seq (items : List StreamItem) : (s.setStream items).seq = s.seq := rfl
@[simp] theorem setStream_answered (items : List StreamItem) : (s.setStream items).answered = s.answered := rfl
@[simp] theorem setStream_cmd (items : List StreamItem) : (s.setStream items).cmd = s.cmd := rfl
@[simp] theorem setStream_h0 (items : List StreamItem) : (s.setStream items).h0 = s.h0 := rfl
@[simp] theorem setStream_h1 (items : List StreamItem) : (s.setStream items).h1 = s.h1 := rfl
@[simp] theorem setStream_plen (items : List StreamItem) : (s.setStream items).plen = s.plen := rfl
@[simp] theorem setStream_pbuf (items : List StreamItem) : (s.setStream items).pbuf = s.pbuf := rfl
@[simp] theorem setStream_key (items : List StreamItem) : (s.setStream items).key = s.key := rfl
@[simp] theorem setStream_closed (items : List StreamItem) : (s.setStream items).closed = s.closed := rfl
@[simp] theorem setStream_acc (items : List StreamItem) : (s.setStream items).acc = s.acc := rfl
@[simp] theorem setStream_msgOp (items : List StreamItem) : (s.setStream items).msgOp = s.msgOp := rfl
@[simp] theorem setStream_fcnt (items : List StreamItem) : (s.setStream items).fcnt = s.fcnt := rfl
@[simp] theorem setStream_res (items : List StreamItem) : (s.setStream items).res = s.res := rfl
@[simp] theorem setStream_written (items : List StreamItem) : (s.setStream items).written = s.written := rfl
@[simp] theorem setStream_live (items : List StreamItem) : (s.setStream items).live = s.live := rfl
@[simp] theorem setStream_host (items : List StreamItem) : (s.setStream items).host = s.host := rfl
@[simp] theorem setStream_delivered (items : List StreamItem) : (s.setStream items).delivered = s.delivered := rfl
@[simp] theorem setStream_stream (items : List StreamItem) : (s.setStream items).stream = items := rfl
@[simp] theorem setStream_params (items : List StreamItem) : (s.setStream items).params = s.params := rfl

/-! `setHost` -/

@[simp] theorem setHost_seq (moves : List HostMove) : (s.setHost moves).seq = s.seq := rfl
@[simp] theorem setHost_answered (moves : List HostMove) : (s.setHost moves).answered = s.answered := rfl
@[simp] theorem setHost_cmd (moves : List HostMove) : (s.setHost moves).cmd = s.cmd := rfl
@[simp] theorem setHost_h0 (moves : List HostMove) : (s.setHost moves).h0 = s.h0 := rfl
@[simp] theorem setHost_h1 (moves : List HostMove) : (s.setHost moves).h1 = s.h1 := rfl
@[simp] theorem setHost_plen (moves : List HostMove) : (s.setHost moves).plen = s.plen := rfl
@[simp] theorem setHost_pbuf (moves : List HostMove) : (s.setHost moves).pbuf = s.pbuf := rfl
@[simp] theorem setHost_key (moves : List HostMove) : (s.setHost moves).key = s.key := rfl
@[simp] theorem setHost_closed (moves : List HostMove) : (s.setHost moves).closed = s.closed := rfl
@[simp] theorem setHost_acc (moves : List HostMove) : (s.setHost moves).acc = s.acc := rfl
@[simp] theorem setHost_msgOp (moves : List HostMove) : (s.setHost moves).msgOp = s.msgOp := rfl
@[simp] theorem setHost_fcnt (moves : List HostMove) : (s.setHost moves).fcnt = s.fcnt := rfl
@[simp] theorem setHost_res (moves : List HostMove) : (s.setHost moves).res = s.res := rfl
@[simp] theorem setHost_written (moves : List HostMove) : (s.setHost moves).written = s.written := rfl
@[simp] theorem setHost_live (moves : List HostMove) : (s.setHost moves).live = s.live := rfl
@[simp] theorem setHost_host (moves : List HostMove) : (s.setHost moves).host = moves := rfl
@[simp] theorem setHost_delivered (moves : List HostMove) : (s.setHost moves).delivered = s.delivered := rfl
@[simp] theorem setHost_stream (moves : List HostMove) : (s.setHost moves).stream = s.stream := rfl
@[simp] theorem setHost_params (moves : List HostMove) : (s.setHost moves).params = s.params := rfl

/-! `deliverToHost` -/

@[simp] theorem deliverToHost_seq (r : Result) : (s.deliverToHost r).seq = s.seq := rfl
@[simp] theorem deliverToHost_answered (r : Result) : (s.deliverToHost r).answered = s.answered := rfl
@[simp] theorem deliverToHost_cmd (r : Result) : (s.deliverToHost r).cmd = s.cmd := rfl
@[simp] theorem deliverToHost_h0 (r : Result) : (s.deliverToHost r).h0 = s.h0 := rfl
@[simp] theorem deliverToHost_h1 (r : Result) : (s.deliverToHost r).h1 = s.h1 := rfl
@[simp] theorem deliverToHost_plen (r : Result) : (s.deliverToHost r).plen = s.plen := rfl
@[simp] theorem deliverToHost_pbuf (r : Result) : (s.deliverToHost r).pbuf = s.pbuf := rfl
@[simp] theorem deliverToHost_key (r : Result) : (s.deliverToHost r).key = s.key := rfl
@[simp] theorem deliverToHost_closed (r : Result) : (s.deliverToHost r).closed = s.closed := rfl
@[simp] theorem deliverToHost_acc (r : Result) : (s.deliverToHost r).acc = s.acc := rfl
@[simp] theorem deliverToHost_msgOp (r : Result) : (s.deliverToHost r).msgOp = s.msgOp := rfl
@[simp] theorem deliverToHost_fcnt (r : Result) : (s.deliverToHost r).fcnt = s.fcnt := rfl
@[simp] theorem deliverToHost_res (r : Result) : (s.deliverToHost r).res = s.res := rfl
@[simp] theorem deliverToHost_written (r : Result) : (s.deliverToHost r).written = s.written := rfl
@[simp] theorem deliverToHost_live (r : Result) : (s.deliverToHost r).live = s.live := rfl
@[simp] theorem deliverToHost_host (r : Result) : (s.deliverToHost r).host = s.host := rfl
@[simp] theorem deliverToHost_delivered (r : Result) : (s.deliverToHost r).delivered = s.delivered ++ [r] := rfl
@[simp] theorem deliverToHost_stream (r : Result) : (s.deliverToHost r).stream = s.stream := rfl
@[simp] theorem deliverToHost_params (r : Result) : (s.deliverToHost r).params = s.params := rfl

/-! `destroy` -/

@[simp] theorem destroy_seq : (s.destroy).seq = s.seq := rfl
@[simp] theorem destroy_answered : (s.destroy).answered = s.answered := rfl
@[simp] theorem destroy_cmd : (s.destroy).cmd = s.cmd := rfl
@[simp] theorem destroy_h0 : (s.destroy).h0 = s.h0 := rfl
@[simp] theorem destroy_h1 : (s.destroy).h1 = s.h1 := rfl
@[simp] theorem destroy_plen : (s.destroy).plen = s.plen := rfl
@[simp] theorem destroy_pbuf : (s.destroy).pbuf = s.pbuf := rfl
@[simp] theorem destroy_key : (s.destroy).key = s.key := rfl
@[simp] theorem destroy_closed : (s.destroy).closed = s.closed := rfl
@[simp] theorem destroy_acc : (s.destroy).acc = s.acc := rfl
@[simp] theorem destroy_msgOp : (s.destroy).msgOp = s.msgOp := rfl
@[simp] theorem destroy_fcnt : (s.destroy).fcnt = s.fcnt := rfl
@[simp] theorem destroy_res : (s.destroy).res = s.res := rfl
@[simp] theorem destroy_written : (s.destroy).written = s.written := rfl
@[simp] theorem destroy_live : (s.destroy).live = false := rfl
@[simp] theorem destroy_host : (s.destroy).host = s.host := rfl
@[simp] theorem destroy_delivered : (s.destroy).delivered = s.delivered := rfl
@[simp] theorem destroy_stream : (s.destroy).stream = s.stream := rfl
@[simp] theorem destroy_params : (s.destroy).params = s.params := rfl

/-! `setH0` -/

@[simp] theorem setH0_seq (x : Byte) : (s.setH0 x).seq = s.seq := rfl
@[simp] theorem setH0_answered (x : Byte) : (s.setH0 x).answered = s.answered := rfl
@[simp] theorem setH0_cmd (x : Byte) : (s.setH0 x).cmd = s.cmd := rfl
@[simp] theorem setH0_h0 (x : Byte) : (s.setH0 x).h0 = x := rfl
@[simp] theorem setH0_h1 (x : Byte) : (s.setH0 x).h1 = s.h1 := rfl
@[simp] theorem setH0_plen (x : Byte) : (s.setH0 x).plen = s.plen := rfl
@[simp] theorem setH0_pbuf (x : Byte) : (s.setH0 x).pbuf = s.pbuf := rfl
@[simp] theorem setH0_key (x : Byte) : (s.setH0 x).key = s.key := rfl
@[simp] theorem setH0_closed (x : Byte) : (s.setH0 x).closed = s.closed := rfl
@[simp] theorem setH0_acc (x : Byte) : (s.setH0 x).acc = s.acc := rfl
@[simp] theorem setH0_msgOp (x : Byte) : (s.setH0 x).msgOp = s.msgOp := rfl
@[simp] theorem setH0_fcnt (x : Byte) : (s.setH0 x).fcnt = s.fcnt := rfl
@[simp] theorem setH0_res (x : Byte) : (s.setH0 x).res = s.res := rfl
@[simp] theorem setH0_written (x : Byte) : (s.setH0 x).written = { s.written with h0 := true } := rfl
@[simp] theorem setH0_live (x : Byte) : (s.setH0 x).live = s.live := rfl
@[simp] theorem setH0_host (x : Byte) : (s.setH0 x).host = s.host := rfl
@[simp] theorem setH0_delivered (x : Byte) : (s.setH0 x).delivered = s.delivered := rfl
@[simp] theorem setH0_stream (x : Byte) : (s.setH0 x).stream = s.stream := rfl
@[simp] theorem setH0_params (x : Byte) : (s.setH0 x).params = s.params := rfl

/-! `setH1` -/

@[simp] theorem setH1_seq (x : Byte) : (s.setH1 x).seq = s.seq := rfl
@[simp] theorem setH1_answered (x : Byte) : (s.setH1 x).answered = s.answered := rfl
@[simp] theorem setH1_cmd (x : Byte) : (s.setH1 x).cmd = s.cmd := rfl
@[simp] theorem setH1_h0 (x : Byte) : (s.setH1 x).h0 = s.h0 := rfl
@[simp] theorem setH1_h1 (x : Byte) : (s.setH1 x).h1 = x := rfl
@[simp] theorem setH1_plen (x : Byte) : (s.setH1 x).plen = s.plen := rfl
@[simp] theorem setH1_pbuf (x : Byte) : (s.setH1 x).pbuf = s.pbuf := rfl
@[simp] theorem setH1_key (x : Byte) : (s.setH1 x).key = s.key := rfl
@[simp] theorem setH1_closed (x : Byte) : (s.setH1 x).closed = s.closed := rfl
@[simp] theorem setH1_acc (x : Byte) : (s.setH1 x).acc = s.acc := rfl
@[simp] theorem setH1_msgOp (x : Byte) : (s.setH1 x).msgOp = s.msgOp := rfl
@[simp] theorem setH1_fcnt (x : Byte) : (s.setH1 x).fcnt = s.fcnt := rfl
@[simp] theorem setH1_res (x : Byte) : (s.setH1 x).res = s.res := rfl
@[simp] theorem setH1_written (x : Byte) : (s.setH1 x).written = { s.written with h1 := true } := rfl
@[simp] theorem setH1_live (x : Byte) : (s.setH1 x).live = s.live := rfl
@[simp] theorem setH1_host (x : Byte) : (s.setH1 x).host = s.host := rfl
@[simp] theorem setH1_delivered (x : Byte) : (s.setH1 x).delivered = s.delivered := rfl
@[simp] theorem setH1_stream (x : Byte) : (s.setH1 x).stream = s.stream := rfl
@[simp] theorem setH1_params (x : Byte) : (s.setH1 x).params = s.params := rfl

/-! `setPbuf` -/

@[simp] theorem setPbuf_seq (x : List Byte) : (s.setPbuf x).seq = s.seq := rfl
@[simp] theorem setPbuf_answered (x : List Byte) : (s.setPbuf x).answered = s.answered := rfl
@[simp] theorem setPbuf_cmd (x : List Byte) : (s.setPbuf x).cmd = s.cmd := rfl
@[simp] theorem setPbuf_h0 (x : List Byte) : (s.setPbuf x).h0 = s.h0 := rfl
@[simp] theorem setPbuf_h1 (x : List Byte) : (s.setPbuf x).h1 = s.h1 := rfl
@[simp] theorem setPbuf_plen (x : List Byte) : (s.setPbuf x).plen = s.plen := rfl
@[simp] theorem setPbuf_pbuf (x : List Byte) : (s.setPbuf x).pbuf = x := rfl
@[simp] theorem setPbuf_key (x : List Byte) : (s.setPbuf x).key = s.key := rfl
@[simp] theorem setPbuf_closed (x : List Byte) : (s.setPbuf x).closed = s.closed := rfl
@[simp] theorem setPbuf_acc (x : List Byte) : (s.setPbuf x).acc = s.acc := rfl
@[simp] theorem setPbuf_msgOp (x : List Byte) : (s.setPbuf x).msgOp = s.msgOp := rfl
@[simp] theorem setPbuf_fcnt (x : List Byte) : (s.setPbuf x).fcnt = s.fcnt := rfl
@[simp] theorem setPbuf_res (x : List Byte) : (s.setPbuf x).res = s.res := rfl
@[simp] theorem setPbuf_written (x : List Byte) : (s.setPbuf x).written = { s.written with pbuf := true } := rfl
@[simp] theorem setPbuf_live (x : List Byte) : (s.setPbuf x).live = s.live := rfl
@[simp] theorem setPbuf_host (x : List Byte) : (s.setPbuf x).host = s.host := rfl
@[simp] theorem setPbuf_delivered (x : List Byte) : (s.setPbuf x).delivered = s.delivered := rfl
@[simp] theorem setPbuf_stream (x : List Byte) : (s.setPbuf x).stream = s.stream := rfl
@[simp] theorem setPbuf_params (x : List Byte) : (s.setPbuf x).params = s.params := rfl

/-! `setKey` -/

@[simp] theorem setKey_seq (x : MaskKey) : (s.setKey x).seq = s.seq := rfl
@[simp] theorem setKey_answered (x : MaskKey) : (s.setKey x).answered = s.answered := rfl
@[simp] theorem setKey_cmd (x : MaskKey) : (s.setKey x).cmd = s.cmd := rfl
@[simp] theorem setKey_h0 (x : MaskKey) : (s.setKey x).h0 = s.h0 := rfl
@[simp] theorem setKey_h1 (x : MaskKey) : (s.setKey x).h1 = s.h1 := rfl
@[simp] theorem setKey_plen (x : MaskKey) : (s.setKey x).plen = s.plen := rfl
@[simp] theorem setKey_pbuf (x : MaskKey) : (s.setKey x).pbuf = s.pbuf := rfl
@[simp] theorem setKey_key (x : MaskKey) : (s.setKey x).key = x := rfl
@[simp] theorem setKey_closed (x : MaskKey) : (s.setKey x).closed = s.closed := rfl
@[simp] theorem setKey_acc (x : MaskKey) : (s.setKey x).acc = s.acc := rfl
@[simp] theorem setKey_msgOp (x : MaskKey) : (s.setKey x).msgOp = s.msgOp := rfl
@[simp] theorem setKey_fcnt (x : MaskKey) : (s.setKey x).fcnt = s.fcnt := rfl
@[simp] theorem setKey_res (x : MaskKey) : (s.setKey x).res = s.res := rfl
@[simp] theorem setKey_written (x : MaskKey) : (s.setKey x).written = { s.written with key := true } := rfl
@[simp] theorem setKey_live (x : MaskKey) : (s.setKey x).live = s.live := rfl
@[simp] theorem setKey_host (x : MaskKey) : (s.setKey x).host = s.host := rfl
@[simp] theorem setKey_delivered (x : MaskKey) : (s.setKey x).delivered = s.delivered := rfl
@[simp] theorem setKey_stream (x : MaskKey) : (s.setKey x).stream = s.stream := rfl
@[simp] theorem setKey_params (x : MaskKey) : (s.setKey x).params = s.params := rfl

/-! `setAcc` -/

@[simp] theorem setAcc_seq (x : List Byte) : (s.setAcc x).seq = s.seq := rfl
@[simp] theorem setAcc_answered (x : List Byte) : (s.setAcc x).answered = s.answered := rfl
@[simp] theorem setAcc_cmd (x : List Byte) : (s.setAcc x).cmd = s.cmd := rfl
@[simp] theorem setAcc_h0 (x : List Byte) : (s.setAcc x).h0 = s.h0 := rfl
@[simp] theorem setAcc_h1 (x : List Byte) : (s.setAcc x).h1 = s.h1 := rfl
@[simp] theorem setAcc_plen (x : List Byte) : (s.setAcc x).plen = s.plen := rfl
@[simp] theorem setAcc_pbuf (x : List Byte) : (s.setAcc x).pbuf = s.pbuf := rfl
@[simp] theorem setAcc_key (x : List Byte) : (s.setAcc x).key = s.key := rfl
@[simp] theorem setAcc_closed (x : List Byte) : (s.setAcc x).closed = s.closed := rfl
@[simp] theorem setAcc_acc (x : List Byte) : (s.setAcc x).acc = x := rfl
@[simp] theorem setAcc_msgOp (x : List Byte) : (s.setAcc x).msgOp = s.msgOp := rfl
@[simp] theorem setAcc_fcnt (x : List Byte) : (s.setAcc x).fcnt = s.fcnt := rfl
@[simp] theorem setAcc_res (x : List Byte) : (s.setAcc x).res = s.res := rfl
@[simp] theorem setAcc_written (x : List Byte) : (s.setAcc x).written = { s.written with acc := true } := rfl
@[simp] theorem setAcc_live (x : List Byte) : (s.setAcc x).live = s.live := rfl
@[simp] theorem setAcc_host (x : List Byte) : (s.setAcc x).host = s.host := rfl
@[simp] theorem setAcc_delivered (x : List Byte) : (s.setAcc x).delivered = s.delivered := rfl
@[simp] theorem setAcc_stream (x : List Byte) : (s.setAcc x).stream = s.stream := rfl
@[simp] theorem setAcc_params (x : List Byte) : (s.setAcc x).params = s.params := rfl

/-! `setMsgOp` -/

@[simp] theorem setMsgOp_seq (x : BitVec 4) : (s.setMsgOp x).seq = s.seq := rfl
@[simp] theorem setMsgOp_answered (x : BitVec 4) : (s.setMsgOp x).answered = s.answered := rfl
@[simp] theorem setMsgOp_cmd (x : BitVec 4) : (s.setMsgOp x).cmd = s.cmd := rfl
@[simp] theorem setMsgOp_h0 (x : BitVec 4) : (s.setMsgOp x).h0 = s.h0 := rfl
@[simp] theorem setMsgOp_h1 (x : BitVec 4) : (s.setMsgOp x).h1 = s.h1 := rfl
@[simp] theorem setMsgOp_plen (x : BitVec 4) : (s.setMsgOp x).plen = s.plen := rfl
@[simp] theorem setMsgOp_pbuf (x : BitVec 4) : (s.setMsgOp x).pbuf = s.pbuf := rfl
@[simp] theorem setMsgOp_key (x : BitVec 4) : (s.setMsgOp x).key = s.key := rfl
@[simp] theorem setMsgOp_closed (x : BitVec 4) : (s.setMsgOp x).closed = s.closed := rfl
@[simp] theorem setMsgOp_acc (x : BitVec 4) : (s.setMsgOp x).acc = s.acc := rfl
@[simp] theorem setMsgOp_msgOp (x : BitVec 4) : (s.setMsgOp x).msgOp = x := rfl
@[simp] theorem setMsgOp_fcnt (x : BitVec 4) : (s.setMsgOp x).fcnt = s.fcnt := rfl
@[simp] theorem setMsgOp_res (x : BitVec 4) : (s.setMsgOp x).res = s.res := rfl
@[simp] theorem setMsgOp_written (x : BitVec 4) : (s.setMsgOp x).written = { s.written with msgOp := true } := rfl
@[simp] theorem setMsgOp_live (x : BitVec 4) : (s.setMsgOp x).live = s.live := rfl
@[simp] theorem setMsgOp_host (x : BitVec 4) : (s.setMsgOp x).host = s.host := rfl
@[simp] theorem setMsgOp_delivered (x : BitVec 4) : (s.setMsgOp x).delivered = s.delivered := rfl
@[simp] theorem setMsgOp_stream (x : BitVec 4) : (s.setMsgOp x).stream = s.stream := rfl
@[simp] theorem setMsgOp_params (x : BitVec 4) : (s.setMsgOp x).params = s.params := rfl

/-! `setFcnt` -/

@[simp] theorem setFcnt_seq (x : BitVec 7) : (s.setFcnt x).seq = s.seq := rfl
@[simp] theorem setFcnt_answered (x : BitVec 7) : (s.setFcnt x).answered = s.answered := rfl
@[simp] theorem setFcnt_cmd (x : BitVec 7) : (s.setFcnt x).cmd = s.cmd := rfl
@[simp] theorem setFcnt_h0 (x : BitVec 7) : (s.setFcnt x).h0 = s.h0 := rfl
@[simp] theorem setFcnt_h1 (x : BitVec 7) : (s.setFcnt x).h1 = s.h1 := rfl
@[simp] theorem setFcnt_plen (x : BitVec 7) : (s.setFcnt x).plen = s.plen := rfl
@[simp] theorem setFcnt_pbuf (x : BitVec 7) : (s.setFcnt x).pbuf = s.pbuf := rfl
@[simp] theorem setFcnt_key (x : BitVec 7) : (s.setFcnt x).key = s.key := rfl
@[simp] theorem setFcnt_closed (x : BitVec 7) : (s.setFcnt x).closed = s.closed := rfl
@[simp] theorem setFcnt_acc (x : BitVec 7) : (s.setFcnt x).acc = s.acc := rfl
@[simp] theorem setFcnt_msgOp (x : BitVec 7) : (s.setFcnt x).msgOp = s.msgOp := rfl
@[simp] theorem setFcnt_fcnt (x : BitVec 7) : (s.setFcnt x).fcnt = x := rfl
@[simp] theorem setFcnt_res (x : BitVec 7) : (s.setFcnt x).res = s.res := rfl
@[simp] theorem setFcnt_written (x : BitVec 7) : (s.setFcnt x).written = { s.written with fcnt := true } := rfl
@[simp] theorem setFcnt_live (x : BitVec 7) : (s.setFcnt x).live = s.live := rfl
@[simp] theorem setFcnt_host (x : BitVec 7) : (s.setFcnt x).host = s.host := rfl
@[simp] theorem setFcnt_delivered (x : BitVec 7) : (s.setFcnt x).delivered = s.delivered := rfl
@[simp] theorem setFcnt_stream (x : BitVec 7) : (s.setFcnt x).stream = s.stream := rfl
@[simp] theorem setFcnt_params (x : BitVec 7) : (s.setFcnt x).params = s.params := rfl

/-! `setRes` -/

@[simp] theorem setRes_seq (x : Result) : (s.setRes x).seq = s.seq := rfl
@[simp] theorem setRes_answered (x : Result) : (s.setRes x).answered = s.answered := rfl
@[simp] theorem setRes_cmd (x : Result) : (s.setRes x).cmd = s.cmd := rfl
@[simp] theorem setRes_h0 (x : Result) : (s.setRes x).h0 = s.h0 := rfl
@[simp] theorem setRes_h1 (x : Result) : (s.setRes x).h1 = s.h1 := rfl
@[simp] theorem setRes_plen (x : Result) : (s.setRes x).plen = s.plen := rfl
@[simp] theorem setRes_pbuf (x : Result) : (s.setRes x).pbuf = s.pbuf := rfl
@[simp] theorem setRes_key (x : Result) : (s.setRes x).key = s.key := rfl
@[simp] theorem setRes_closed (x : Result) : (s.setRes x).closed = s.closed := rfl
@[simp] theorem setRes_acc (x : Result) : (s.setRes x).acc = s.acc := rfl
@[simp] theorem setRes_msgOp (x : Result) : (s.setRes x).msgOp = s.msgOp := rfl
@[simp] theorem setRes_fcnt (x : Result) : (s.setRes x).fcnt = s.fcnt := rfl
@[simp] theorem setRes_res (x : Result) : (s.setRes x).res = x := rfl
@[simp] theorem setRes_written (x : Result) : (s.setRes x).written = { s.written with res := true } := rfl
@[simp] theorem setRes_live (x : Result) : (s.setRes x).live = s.live := rfl
@[simp] theorem setRes_host (x : Result) : (s.setRes x).host = s.host := rfl
@[simp] theorem setRes_delivered (x : Result) : (s.setRes x).delivered = s.delivered := rfl
@[simp] theorem setRes_stream (x : Result) : (s.setRes x).stream = s.stream := rfl
@[simp] theorem setRes_params (x : Result) : (s.setRes x).params = s.params := rfl

/-! `setPlen` -/

@[simp] theorem setPlen_seq (n : Nat) : (s.setPlen n).seq = s.seq := rfl
@[simp] theorem setPlen_answered (n : Nat) : (s.setPlen n).answered = s.answered := rfl
@[simp] theorem setPlen_cmd (n : Nat) : (s.setPlen n).cmd = s.cmd := rfl
@[simp] theorem setPlen_h0 (n : Nat) : (s.setPlen n).h0 = s.h0 := rfl
@[simp] theorem setPlen_h1 (n : Nat) : (s.setPlen n).h1 = s.h1 := rfl
@[simp] theorem setPlen_plen (n : Nat) : (s.setPlen n).plen = BitVec.ofNat 64 n := rfl
@[simp] theorem setPlen_pbuf (n : Nat) : (s.setPlen n).pbuf = s.pbuf := rfl
@[simp] theorem setPlen_key (n : Nat) : (s.setPlen n).key = s.key := rfl
@[simp] theorem setPlen_closed (n : Nat) : (s.setPlen n).closed = s.closed := rfl
@[simp] theorem setPlen_acc (n : Nat) : (s.setPlen n).acc = s.acc := rfl
@[simp] theorem setPlen_msgOp (n : Nat) : (s.setPlen n).msgOp = s.msgOp := rfl
@[simp] theorem setPlen_fcnt (n : Nat) : (s.setPlen n).fcnt = s.fcnt := rfl
@[simp] theorem setPlen_res (n : Nat) : (s.setPlen n).res = s.res := rfl
@[simp] theorem setPlen_written (n : Nat) : (s.setPlen n).written = { s.written with plen := true } := rfl
@[simp] theorem setPlen_live (n : Nat) : (s.setPlen n).live = s.live := rfl
@[simp] theorem setPlen_host (n : Nat) : (s.setPlen n).host = s.host := rfl
@[simp] theorem setPlen_delivered (n : Nat) : (s.setPlen n).delivered = s.delivered := rfl
@[simp] theorem setPlen_stream (n : Nat) : (s.setPlen n).stream = s.stream := rfl
@[simp] theorem setPlen_params (n : Nat) : (s.setPlen n).params = s.params := rfl

/-! The views of `H0` and `H1` (R19) -/

@[simp] theorem goto_fin (q : Seq) : (s.goto q).fin = s.fin := rfl
@[simp] theorem goto_rsv (q : Seq) : (s.goto q).rsv = s.rsv := rfl
@[simp] theorem goto_opc (q : Seq) : (s.goto q).opc = s.opc := rfl
@[simp] theorem goto_masked (q : Seq) : (s.goto q).masked = s.masked := rfl
@[simp] theorem goto_len7 (q : Seq) : (s.goto q).len7 = s.len7 := rfl

@[simp] theorem setAnswered_fin : (s.setAnswered).fin = s.fin := rfl
@[simp] theorem setAnswered_rsv : (s.setAnswered).rsv = s.rsv := rfl
@[simp] theorem setAnswered_opc : (s.setAnswered).opc = s.opc := rfl
@[simp] theorem setAnswered_masked : (s.setAnswered).masked = s.masked := rfl
@[simp] theorem setAnswered_len7 : (s.setAnswered).len7 = s.len7 := rfl

@[simp] theorem setCmd_fin (c : Cmd) : (s.setCmd c).fin = s.fin := rfl
@[simp] theorem setCmd_rsv (c : Cmd) : (s.setCmd c).rsv = s.rsv := rfl
@[simp] theorem setCmd_opc (c : Cmd) : (s.setCmd c).opc = s.opc := rfl
@[simp] theorem setCmd_masked (c : Cmd) : (s.setCmd c).masked = s.masked := rfl
@[simp] theorem setCmd_len7 (c : Cmd) : (s.setCmd c).len7 = s.len7 := rfl

@[simp] theorem setClosed_fin : (s.setClosed).fin = s.fin := rfl
@[simp] theorem setClosed_rsv : (s.setClosed).rsv = s.rsv := rfl
@[simp] theorem setClosed_opc : (s.setClosed).opc = s.opc := rfl
@[simp] theorem setClosed_masked : (s.setClosed).masked = s.masked := rfl
@[simp] theorem setClosed_len7 : (s.setClosed).len7 = s.len7 := rfl

@[simp] theorem setStream_fin (items : List StreamItem) : (s.setStream items).fin = s.fin := rfl
@[simp] theorem setStream_rsv (items : List StreamItem) : (s.setStream items).rsv = s.rsv := rfl
@[simp] theorem setStream_opc (items : List StreamItem) : (s.setStream items).opc = s.opc := rfl
@[simp] theorem setStream_masked (items : List StreamItem) : (s.setStream items).masked = s.masked := rfl
@[simp] theorem setStream_len7 (items : List StreamItem) : (s.setStream items).len7 = s.len7 := rfl

@[simp] theorem setHost_fin (moves : List HostMove) : (s.setHost moves).fin = s.fin := rfl
@[simp] theorem setHost_rsv (moves : List HostMove) : (s.setHost moves).rsv = s.rsv := rfl
@[simp] theorem setHost_opc (moves : List HostMove) : (s.setHost moves).opc = s.opc := rfl
@[simp] theorem setHost_masked (moves : List HostMove) : (s.setHost moves).masked = s.masked := rfl
@[simp] theorem setHost_len7 (moves : List HostMove) : (s.setHost moves).len7 = s.len7 := rfl

@[simp] theorem deliverToHost_fin (r : Result) : (s.deliverToHost r).fin = s.fin := rfl
@[simp] theorem deliverToHost_rsv (r : Result) : (s.deliverToHost r).rsv = s.rsv := rfl
@[simp] theorem deliverToHost_opc (r : Result) : (s.deliverToHost r).opc = s.opc := rfl
@[simp] theorem deliverToHost_masked (r : Result) : (s.deliverToHost r).masked = s.masked := rfl
@[simp] theorem deliverToHost_len7 (r : Result) : (s.deliverToHost r).len7 = s.len7 := rfl

@[simp] theorem destroy_fin : (s.destroy).fin = s.fin := rfl
@[simp] theorem destroy_rsv : (s.destroy).rsv = s.rsv := rfl
@[simp] theorem destroy_opc : (s.destroy).opc = s.opc := rfl
@[simp] theorem destroy_masked : (s.destroy).masked = s.masked := rfl
@[simp] theorem destroy_len7 : (s.destroy).len7 = s.len7 := rfl

@[simp] theorem setH0_fin (x : Byte) : (s.setH0 x).fin = (hx0 x).fin := rfl
@[simp] theorem setH0_rsv (x : Byte) : (s.setH0 x).rsv = (hx0 x).rsv := rfl
@[simp] theorem setH0_opc (x : Byte) : (s.setH0 x).opc = (hx0 x).opc := rfl
@[simp] theorem setH0_masked (x : Byte) : (s.setH0 x).masked = s.masked := rfl
@[simp] theorem setH0_len7 (x : Byte) : (s.setH0 x).len7 = s.len7 := rfl

@[simp] theorem setH1_fin (x : Byte) : (s.setH1 x).fin = s.fin := rfl
@[simp] theorem setH1_rsv (x : Byte) : (s.setH1 x).rsv = s.rsv := rfl
@[simp] theorem setH1_opc (x : Byte) : (s.setH1 x).opc = s.opc := rfl
@[simp] theorem setH1_masked (x : Byte) : (s.setH1 x).masked = (hx1 x).mask := rfl
@[simp] theorem setH1_len7 (x : Byte) : (s.setH1 x).len7 = (hx1 x).len7 := rfl

@[simp] theorem setPbuf_fin (x : List Byte) : (s.setPbuf x).fin = s.fin := rfl
@[simp] theorem setPbuf_rsv (x : List Byte) : (s.setPbuf x).rsv = s.rsv := rfl
@[simp] theorem setPbuf_opc (x : List Byte) : (s.setPbuf x).opc = s.opc := rfl
@[simp] theorem setPbuf_masked (x : List Byte) : (s.setPbuf x).masked = s.masked := rfl
@[simp] theorem setPbuf_len7 (x : List Byte) : (s.setPbuf x).len7 = s.len7 := rfl

@[simp] theorem setKey_fin (x : MaskKey) : (s.setKey x).fin = s.fin := rfl
@[simp] theorem setKey_rsv (x : MaskKey) : (s.setKey x).rsv = s.rsv := rfl
@[simp] theorem setKey_opc (x : MaskKey) : (s.setKey x).opc = s.opc := rfl
@[simp] theorem setKey_masked (x : MaskKey) : (s.setKey x).masked = s.masked := rfl
@[simp] theorem setKey_len7 (x : MaskKey) : (s.setKey x).len7 = s.len7 := rfl

@[simp] theorem setAcc_fin (x : List Byte) : (s.setAcc x).fin = s.fin := rfl
@[simp] theorem setAcc_rsv (x : List Byte) : (s.setAcc x).rsv = s.rsv := rfl
@[simp] theorem setAcc_opc (x : List Byte) : (s.setAcc x).opc = s.opc := rfl
@[simp] theorem setAcc_masked (x : List Byte) : (s.setAcc x).masked = s.masked := rfl
@[simp] theorem setAcc_len7 (x : List Byte) : (s.setAcc x).len7 = s.len7 := rfl

@[simp] theorem setMsgOp_fin (x : BitVec 4) : (s.setMsgOp x).fin = s.fin := rfl
@[simp] theorem setMsgOp_rsv (x : BitVec 4) : (s.setMsgOp x).rsv = s.rsv := rfl
@[simp] theorem setMsgOp_opc (x : BitVec 4) : (s.setMsgOp x).opc = s.opc := rfl
@[simp] theorem setMsgOp_masked (x : BitVec 4) : (s.setMsgOp x).masked = s.masked := rfl
@[simp] theorem setMsgOp_len7 (x : BitVec 4) : (s.setMsgOp x).len7 = s.len7 := rfl

@[simp] theorem setFcnt_fin (x : BitVec 7) : (s.setFcnt x).fin = s.fin := rfl
@[simp] theorem setFcnt_rsv (x : BitVec 7) : (s.setFcnt x).rsv = s.rsv := rfl
@[simp] theorem setFcnt_opc (x : BitVec 7) : (s.setFcnt x).opc = s.opc := rfl
@[simp] theorem setFcnt_masked (x : BitVec 7) : (s.setFcnt x).masked = s.masked := rfl
@[simp] theorem setFcnt_len7 (x : BitVec 7) : (s.setFcnt x).len7 = s.len7 := rfl

@[simp] theorem setRes_fin (x : Result) : (s.setRes x).fin = s.fin := rfl
@[simp] theorem setRes_rsv (x : Result) : (s.setRes x).rsv = s.rsv := rfl
@[simp] theorem setRes_opc (x : Result) : (s.setRes x).opc = s.opc := rfl
@[simp] theorem setRes_masked (x : Result) : (s.setRes x).masked = s.masked := rfl
@[simp] theorem setRes_len7 (x : Result) : (s.setRes x).len7 = s.len7 := rfl

@[simp] theorem setPlen_fin (n : Nat) : (s.setPlen n).fin = s.fin := rfl
@[simp] theorem setPlen_rsv (n : Nat) : (s.setPlen n).rsv = s.rsv := rfl
@[simp] theorem setPlen_opc (n : Nat) : (s.setPlen n).opc = s.opc := rfl
@[simp] theorem setPlen_masked (n : Nat) : (s.setPlen n).masked = s.masked := rfl
@[simp] theorem setPlen_len7 (n : Nat) : (s.setPlen n).len7 = s.len7 := rfl

end Sys2Proof.Machine.State
end

