-- ==== Sys2Proof/Laws/Ops.lean ====
section
/-! SUPPORT. One lemma per shared operation: everything it can answer. Proofs cite these instead of unfolding. -/

namespace Sys2Proof.Machine

/-! ### Operands -/

/-- `be64` is the sum of R11. -/
theorem be64_eq_sum (s : List Byte) :
    be64 s = (List.range 8).foldl (fun n i => n + (s.getD i 0).toNat * 2 ^ (8 * (7 - i))) 0 := by
  simp only [be64, List.range, List.range.loop, List.foldl]
  norm_num
  ring

/-- A 16-bit value (R20). -/
theorem be16_lt (s : List Byte) : be16 s < 2 ^ 16 := by
  have h0 := (s.getD 0 0).isLt
  have h1 := (s.getD 1 0).isLt
  unfold be16
  omega

/-- A 64-bit value (R20). -/
theorem be64_lt (s : List Byte) : be64 s < 2 ^ 64 := by
  have h0 := (s.getD 0 0).isLt
  have h1 := (s.getD 1 0).isLt
  have h2 := (s.getD 2 0).isLt
  have h3 := (s.getD 3 0).isLt
  have h4 := (s.getD 4 0).isLt
  have h5 := (s.getD 5 0).isLt
  have h6 := (s.getD 6 0).isLt
  have h7 := (s.getD 7 0).isLt
  unfold be64
  omega

/-! ### Ending a command -/

/-- `raise` writes `RES` and `SEQ` and nothing else (R115). -/
theorem raise_eq (k : ErrKind) (s : State) :
    raise k s = { s with res := .err k, written := { s.written with res := true }, seq := .done, answered := false } :=
  rfl

/-- `returnResult` writes `RES` and `SEQ` and nothing else (R103). -/
theorem returnResult_eq (r : Result) (s : State) :
    returnResult r s = { s with res := r, written := { s.written with res := true }, seq := .done, answered := false } :=
  rfl

/-- `deliver` hands `RES` over, clears `CMD` and goes to `IDLE` (R28). -/
theorem deliver_eq (s : State) :
    deliver s = { s with delivered := s.delivered ++ [s.res], cmd := .none, seq := .idle, answered := false } :=
  rfl

/-! ### The stream port -/

@[simp] theorem streamRead_zero (items : List StreamItem) : streamRead 0 items = .data [] items := by
  cases items with
  | nil => rfl
  | cons x xs => cases x <;> rfl

@[simp] theorem streamRead_succ_nil (n : Nat) : streamRead (n + 1) [] = .noAnswer := rfl

@[simp] theorem streamRead_succ_err (n : Nat) (e : TransportError) (items : List StreamItem) :
    streamRead (n + 1) (.err e :: items) = .error e items := rfl

theorem streamRead_succ_byte (n : Nat) (b : Byte) (items : List StreamItem) :
    streamRead (n + 1) (.byte b :: items) =
      match streamRead n items with
      | .data bs rest => .data (b :: bs) rest
      | .error e rest => .error e rest
      | .noAnswer => .noAnswer := rfl

/-- A read transaction goes on with data, ends the command, or waits (R15, R35). -/
theorem readThen_cases {n : Nat} {s : State} {k : List Byte → State → State} {o : Outcome} (h : readThen n s k = o) :
    (∃ bs rest, streamRead n s.stream = .data bs rest ∧ o = .next (k bs (s.setStream rest))) ∨
    (∃ e rest, streamRead n s.stream = .error e rest ∧ o = .next (raise (.transport e) (s.setStream rest))) ∨
    (streamRead n s.stream = .noAnswer ∧ o = .next s) := by
  unfold readThen at h
  split at h
  · exact .inl ⟨_, _, by assumption, h.symm⟩
  · exact .inr (.inl ⟨_, _, by assumption, h.symm⟩)
  · exact .inr (.inr ⟨by assumption, h.symm⟩)

/-! ### Accepting a command -/

/-- The host port accepts a stream command, or faults for one of two reasons (R128, R129). -/
theorem acceptThen_cases {s : State} {k : State → State} {o : Outcome} (h : acceptThen s k = o) :
    (s.seq ≠ .idle ∧ o = .fault .concurrent) ∨
    (s.seq = .idle ∧ s.closed = true ∧ o = .fault .callAfterClose) ∨
    (s.seq = .idle ∧ s.closed = false ∧ o = .next (k s)) := by
  unfold acceptThen at h
  split at h
  · exact .inl ⟨by assumption, h.symm⟩
  · have hi : s.seq = .idle := by simpa using ‹¬ s.seq ≠ .idle›
    split at h
    · exact .inr (.inl ⟨hi, by assumption, h.symm⟩)
    · exact .inr (.inr ⟨hi, by simpa using ‹¬ s.closed = true›, h.symm⟩)

/-! ### The message reader -/

/-- Counting a frame goes on with the next frame or raises `LIMIT` (R101). -/
theorem countFrame_cases (s : State) :
    ((s.fcnt + 1).toNat ≤ 100 ∧ countFrame s = (s.setFcnt (s.fcnt + 1)).goto .fdH0) ∨
    (100 < (s.fcnt + 1).toNat ∧ countFrame s = raise .limit (s.setFcnt (s.fcnt + 1))) := by
  unfold countFrame Config.contCap
  split
  · exact .inr ⟨by assumption, rfl⟩
  · exact .inl ⟨by omega, rfl⟩

/-- `overwrite` records every opcode but 0 (R100). -/
theorem records_overwrite (msgOp opc : BitVec 4) : records .overwrite msgOp opc = true ↔ opc ≠ 0 := by simp [records]

/-- `keep_first` records an opcode but 0 over a record of 0 (R100). -/
theorem records_keepFirst (msgOp opc : BitVec 4) :
    records .keepFirst msgOp opc = true ↔ opc ≠ 0 ∧ msgOp = 0 := by simp [records]

/-- Opcode 0 is never recorded (R100, R104). -/
@[simp] theorem records_zero (policy : RecordPolicy) (msgOp : BitVec 4) : records policy msgOp 0#4 = false := rfl

/-- Recording writes `MSG_OP` with the frame's own opcode, not 0, or nothing (R100). -/
theorem recordOp_cases (opc : BitVec 4) (s : State) :
    recordOp opc s = s ∨ (opc ≠ 0 ∧ recordOp opc s = s.setMsgOp opc) := by
  unfold recordOp
  by_cases h : records s.params.recordPolicy s.msgOp opc = true
  · have : opc ≠ 0 := by
      rintro rfl
      simp at h
    exact .inr ⟨this, if_pos h⟩
  · exact .inl (if_neg h)

/-- Recording leaves `MSG_OP` at the recorded opcode of the policy (R100). -/
theorem recordOp_msgOp (opc : BitVec 4) (s : State) :
    (recordOp opc s).msgOp = recordedOp s.params.recordPolicy s.msgOp opc := by
  unfold recordOp recordedOp
  split <;> rfl

/-- A data frame takes the fast path, faults for capacity, or is appended, and then returned or counted (R98, R99). -/
theorem dataFrame_cases {opc : BitVec 4} {fin : Bool} {s : State} {o : Outcome} (h : dataFrame opc fin s = o) :
    (s.acc = [] ∧ fin = true ∧ o = .next (returnResult (.message opc s.pbuf) s)) ∨
    ((s.acc ≠ [] ∨ fin = false) ∧ exceeds s.params.accCap (s.acc.length + s.pbuf.length) = true ∧
      o = .fault .capacity) ∨
    (s.acc ≠ [] ∧ fin = true ∧ exceeds s.params.accCap (s.acc.length + s.pbuf.length) = false ∧
      o = .next (returnResult (.message (recordOp opc (s.setAcc (s.acc ++ s.pbuf))).msgOp (s.acc ++ s.pbuf))
        (recordOp opc (s.setAcc (s.acc ++ s.pbuf))))) ∨
    (fin = false ∧ exceeds s.params.accCap (s.acc.length + s.pbuf.length) = false ∧
      o = .next (countFrame (recordOp opc (s.setAcc (s.acc ++ s.pbuf))))) := by
  have hacc : (recordOp opc (s.setAcc (s.acc ++ s.pbuf))).acc = s.acc ++ s.pbuf := by
    rcases recordOp_cases opc (s.setAcc (s.acc ++ s.pbuf)) with e | ⟨-, e⟩ <;> rw [e] <;> rfl
  unfold dataFrame at h
  split at h
  · exact .inl ⟨by simp_all, by simp_all, h.symm⟩
  · rename_i hf
    have hf' : s.acc ≠ [] ∨ fin = false := by
      by_cases ha : s.acc = []
      · right; simpa [ha] using hf
      · exact .inl ha
    split at h
    · exact .inr (.inl ⟨hf', by assumption, h.symm⟩)
    · rename_i he
      have he' : exceeds s.params.accCap (s.acc.length + s.pbuf.length) = false := by simpa using he
      simp only at h
      split at h
      · rename_i hfin
        refine .inr (.inr (.inl ⟨by simpa [hfin] using hf', hfin, he', ?_⟩))
        rw [← h, hacc]
      · exact .inr (.inr (.inr ⟨by simpa using ‹¬ fin = true›, he', h.symm⟩))

/-! ### The shared operations, field by field -/

/-- What depends on no register that counting a frame may write, `FCNT` being one more after it. -/
theorem countFrame_keeps {α : Type} (s : State) (f : State → α)
    (h : ∀ q r w, f { s with fcnt := s.fcnt + 1, seq := q, answered := false, res := r, written := w } = f
      { s with fcnt := s.fcnt + 1, answered := false }) :
    f (countFrame s) = f { s with fcnt := s.fcnt + 1, answered := false } := by
  rcases countFrame_cases s with ⟨-, e⟩ | ⟨-, e⟩
  · rw [e]; exact h .fdH0 s.res { s.written with fcnt := true }
  · rw [e]; exact h .done (.err .limit) { s.written with fcnt := true, res := true }

/-- What depends on neither `MSG_OP` nor the record of written registers is kept by recording. -/
theorem recordOp_keeps {α : Type} (opc : BitVec 4) (s : State) (f : State → α)
    (h : ∀ m w, f { s with msgOp := m, written := w } = f s) : f (recordOp opc s) = f s := by
  rcases recordOp_cases opc s with e | ⟨-, e⟩
  · rw [e]
  · rw [e]; exact h opc { s.written with msgOp := true }

@[simp] theorem raise_seq (k : ErrKind) (s : State) : (raise k s).seq = .done := rfl
@[simp] theorem raise_answered (k : ErrKind) (s : State) : (raise k s).answered = false := rfl
@[simp] theorem raise_cmd (k : ErrKind) (s : State) : (raise k s).cmd = s.cmd := rfl
@[simp] theorem raise_h0 (k : ErrKind) (s : State) : (raise k s).h0 = s.h0 := rfl
@[simp] theorem raise_h1 (k : ErrKind) (s : State) : (raise k s).h1 = s.h1 := rfl
@[simp] theorem raise_plen (k : ErrKind) (s : State) : (raise k s).plen = s.plen := rfl
@[simp] theorem raise_pbuf (k : ErrKind) (s : State) : (raise k s).pbuf = s.pbuf := rfl
@[simp] theorem raise_key (k : ErrKind) (s : State) : (raise k s).key = s.key := rfl
@[simp] theorem raise_closed (k : ErrKind) (s : State) : (raise k s).closed = s.closed := rfl
@[simp] theorem raise_acc (k : ErrKind) (s : State) : (raise k s).acc = s.acc := rfl
@[simp] theorem raise_msgOp (k : ErrKind) (s : State) : (raise k s).msgOp = s.msgOp := rfl
@[simp] theorem raise_fcnt (k : ErrKind) (s : State) : (raise k s).fcnt = s.fcnt := rfl
@[simp] theorem raise_res (k : ErrKind) (s : State) : (raise k s).res = .err k := rfl
@[simp] theorem raise_written (k : ErrKind) (s : State) : (raise k s).written = { s.written with res := true } := rfl
@[simp] theorem raise_live (k : ErrKind) (s : State) : (raise k s).live = s.live := rfl
@[simp] theorem raise_host (k : ErrKind) (s : State) : (raise k s).host = s.host := rfl
@[simp] theorem raise_delivered (k : ErrKind) (s : State) : (raise k s).delivered = s.delivered := rfl
@[simp] theorem raise_stream (k : ErrKind) (s : State) : (raise k s).stream = s.stream := rfl
@[simp] theorem raise_params (k : ErrKind) (s : State) : (raise k s).params = s.params := rfl
@[simp] theorem raise_fin (k : ErrKind) (s : State) : (raise k s).fin = s.fin := rfl
@[simp] theorem raise_rsv (k : ErrKind) (s : State) : (raise k s).rsv = s.rsv := rfl
@[simp] theorem raise_opc (k : ErrKind) (s : State) : (raise k s).opc = s.opc := rfl
@[simp] theorem raise_masked (k : ErrKind) (s : State) : (raise k s).masked = s.masked := rfl
@[simp] theorem raise_len7 (k : ErrKind) (s : State) : (raise k s).len7 = s.len7 := rfl

@[simp] theorem returnResult_seq (r : Result) (s : State) : (returnResult r s).seq = .done := rfl
@[simp] theorem returnResult_answered (r : Result) (s : State) : (returnResult r s).answered = false := rfl
@[simp] theorem returnResult_cmd (r : Result) (s : State) : (returnResult r s).cmd = s.cmd := rfl
@[simp] theorem returnResult_h0 (r : Result) (s : State) : (returnResult r s).h0 = s.h0 := rfl
@[simp] theorem returnResult_h1 (r : Result) (s : State) : (returnResult r s).h1 = s.h1 := rfl
@[simp] theorem returnResult_plen (r : Result) (s : State) : (returnResult r s).plen = s.plen := rfl
@[simp] theorem returnResult_pbuf (r : Result) (s : State) : (returnResult r s).pbuf = s.pbuf := rfl
@[simp] theorem returnResult_key (r : Result) (s : State) : (returnResult r s).key = s.key := rfl
@[simp] theorem returnResult_closed (r : Result) (s : State) : (returnResult r s).closed = s.closed := rfl
@[simp] theorem returnResult_acc (r : Result) (s : State) : (returnResult r s).acc = s.acc := rfl
@[simp] theorem returnResult_msgOp (r : Result) (s : State) : (returnResult r s).msgOp = s.msgOp := rfl
@[simp] theorem returnResult_fcnt (r : Result) (s : State) : (returnResult r s).fcnt = s.fcnt := rfl
@[simp] theorem returnResult_res (r : Result) (s : State) : (returnResult r s).res = r := rfl
@[simp] theorem returnResult_written (r : Result) (s : State) : (returnResult r s).written = { s.written with res := true } := rfl
@[simp] theorem returnResult_live (r : Result) (s : State) : (returnResult r s).live = s.live := rfl
@[simp] theorem returnResult_host (r : Result) (s : State) : (returnResult r s).host = s.host := rfl
@[simp] theorem returnResult_delivered (r : Result) (s : State) : (returnResult r s).delivered = s.delivered := rfl
@[simp] theorem returnResult_stream (r : Result) (s : State) : (returnResult r s).stream = s.stream := rfl
@[simp] theorem returnResult_params (r : Result) (s : State) : (returnResult r s).params = s.params := rfl
@[simp] theorem returnResult_fin (r : Result) (s : State) : (returnResult r s).fin = s.fin := rfl
@[simp] theorem returnResult_rsv (r : Result) (s : State) : (returnResult r s).rsv = s.rsv := rfl
@[simp] theorem returnResult_opc (r : Result) (s : State) : (returnResult r s).opc = s.opc := rfl
@[simp] theorem returnResult_masked (r : Result) (s : State) : (returnResult r s).masked = s.masked := rfl
@[simp] theorem returnResult_len7 (r : Result) (s : State) : (returnResult r s).len7 = s.len7 := rfl

@[simp] theorem deliver_seq (s : State) : (deliver s).seq = .idle := rfl
@[simp] theorem deliver_answered (s : State) : (deliver s).answered = false := rfl
@[simp] theorem deliver_cmd (s : State) : (deliver s).cmd = .none := rfl
@[simp] theorem deliver_h0 (s : State) : (deliver s).h0 = s.h0 := rfl
@[simp] theorem deliver_h1 (s : State) : (deliver s).h1 = s.h1 := rfl
@[simp] theorem deliver_plen (s : State) : (deliver s).plen = s.plen := rfl
@[simp] theorem deliver_pbuf (s : State) : (deliver s).pbuf = s.pbuf := rfl
@[simp] theorem deliver_key (s : State) : (deliver s).key = s.key := rfl
@[simp] theorem deliver_closed (s : State) : (deliver s).closed = s.closed := rfl
@[simp] theorem deliver_acc (s : State) : (deliver s).acc = s.acc := rfl
@[simp] theorem deliver_msgOp (s : State) : (deliver s).msgOp = s.msgOp := rfl
@[simp] theorem deliver_fcnt (s : State) : (deliver s).fcnt = s.fcnt := rfl
@[simp] theorem deliver_res (s : State) : (deliver s).res = s.res := rfl
@[simp] theorem deliver_written (s : State) : (deliver s).written = s.written := rfl
@[simp] theorem deliver_live (s : State) : (deliver s).live = s.live := rfl
@[simp] theorem deliver_host (s : State) : (deliver s).host = s.host := rfl
@[simp] theorem deliver_delivered (s : State) : (deliver s).delivered = s.delivered ++ [s.res] := rfl
@[simp] theorem deliver_stream (s : State) : (deliver s).stream = s.stream := rfl
@[simp] theorem deliver_params (s : State) : (deliver s).params = s.params := rfl
@[simp] theorem deliver_fin (s : State) : (deliver s).fin = s.fin := rfl
@[simp] theorem deliver_rsv (s : State) : (deliver s).rsv = s.rsv := rfl
@[simp] theorem deliver_opc (s : State) : (deliver s).opc = s.opc := rfl
@[simp] theorem deliver_masked (s : State) : (deliver s).masked = s.masked := rfl
@[simp] theorem deliver_len7 (s : State) : (deliver s).len7 = s.len7 := rfl

@[simp] theorem countFrame_answered (s : State) : (countFrame s).answered = false := countFrame_keeps s (·.answered) fun _ _ _ => rfl
@[simp] theorem countFrame_cmd (s : State) : (countFrame s).cmd = s.cmd := countFrame_keeps s (·.cmd) fun _ _ _ => rfl
@[simp] theorem countFrame_h0 (s : State) : (countFrame s).h0 = s.h0 := countFrame_keeps s (·.h0) fun _ _ _ => rfl
@[simp] theorem countFrame_h1 (s : State) : (countFrame s).h1 = s.h1 := countFrame_keeps s (·.h1) fun _ _ _ => rfl
@[simp] theorem countFrame_plen (s : State) : (countFrame s).plen = s.plen := countFrame_keeps s (·.plen) fun _ _ _ => rfl
@[simp] theorem countFrame_pbuf (s : State) : (countFrame s).pbuf = s.pbuf := countFrame_keeps s (·.pbuf) fun _ _ _ => rfl
@[simp] theorem countFrame_key (s : State) : (countFrame s).key = s.key := countFrame_keeps s (·.key) fun _ _ _ => rfl
@[simp] theorem countFrame_closed (s : State) : (countFrame s).closed = s.closed := countFrame_keeps s (·.closed) fun _ _ _ => rfl
@[simp] theorem countFrame_acc (s : State) : (countFrame s).acc = s.acc := countFrame_keeps s (·.acc) fun _ _ _ => rfl
@[simp] theorem countFrame_msgOp (s : State) : (countFrame s).msgOp = s.msgOp := countFrame_keeps s (·.msgOp) fun _ _ _ => rfl
@[simp] theorem countFrame_fcnt (s : State) : (countFrame s).fcnt = s.fcnt + 1 := countFrame_keeps s (·.fcnt) fun _ _ _ => rfl
@[simp] theorem countFrame_live (s : State) : (countFrame s).live = s.live := countFrame_keeps s (·.live) fun _ _ _ => rfl
@[simp] theorem countFrame_host (s : State) : (countFrame s).host = s.host := countFrame_keeps s (·.host) fun _ _ _ => rfl
@[simp] theorem countFrame_delivered (s : State) : (countFrame s).delivered = s.delivered := countFrame_keeps s (·.delivered) fun _ _ _ => rfl
@[simp] theorem countFrame_stream (s : State) : (countFrame s).stream = s.stream := countFrame_keeps s (·.stream) fun _ _ _ => rfl
@[simp] theorem countFrame_params (s : State) : (countFrame s).params = s.params := countFrame_keeps s (·.params) fun _ _ _ => rfl
@[simp] theorem countFrame_fin (s : State) : (countFrame s).fin = s.fin := countFrame_keeps s (·.fin) fun _ _ _ => rfl
@[simp] theorem countFrame_rsv (s : State) : (countFrame s).rsv = s.rsv := countFrame_keeps s (·.rsv) fun _ _ _ => rfl
@[simp] theorem countFrame_opc (s : State) : (countFrame s).opc = s.opc := countFrame_keeps s (·.opc) fun _ _ _ => rfl
@[simp] theorem countFrame_masked (s : State) : (countFrame s).masked = s.masked := countFrame_keeps s (·.masked) fun _ _ _ => rfl
@[simp] theorem countFrame_len7 (s : State) : (countFrame s).len7 = s.len7 := countFrame_keeps s (·.len7) fun _ _ _ => rfl

@[simp] theorem recordOp_seq (opc : BitVec 4) (s : State) : (recordOp opc s).seq = s.seq := recordOp_keeps opc s (·.seq) fun _ _ => rfl
@[simp] theorem recordOp_answered (opc : BitVec 4) (s : State) : (recordOp opc s).answered = s.answered := recordOp_keeps opc s (·.answered) fun _ _ => rfl
@[simp] theorem recordOp_cmd (opc : BitVec 4) (s : State) : (recordOp opc s).cmd = s.cmd := recordOp_keeps opc s (·.cmd) fun _ _ => rfl
@[simp] theorem recordOp_h0 (opc : BitVec 4) (s : State) : (recordOp opc s).h0 = s.h0 := recordOp_keeps opc s (·.h0) fun _ _ => rfl
@[simp] theorem recordOp_h1 (opc : BitVec 4) (s : State) : (recordOp opc s).h1 = s.h1 := recordOp_keeps opc s (·.h1) fun _ _ => rfl
@[simp] theorem recordOp_plen (opc : BitVec 4) (s : State) : (recordOp opc s).plen = s.plen := recordOp_keeps opc s (·.plen) fun _ _ => rfl
@[simp] theorem recordOp_pbuf (opc : BitVec 4) (s : State) : (recordOp opc s).pbuf = s.pbuf := recordOp_keeps opc s (·.pbuf) fun _ _ => rfl
@[simp] theorem recordOp_key (opc : BitVec 4) (s : State) : (recordOp opc s).key = s.key := recordOp_keeps opc s (·.key) fun _ _ => rfl
@[simp] theorem recordOp_closed (opc : BitVec 4) (s : State) : (recordOp opc s).closed = s.closed := recordOp_keeps opc s (·.closed) fun _ _ => rfl
@[simp] theorem recordOp_acc (opc : BitVec 4) (s : State) : (recordOp opc s).acc = s.acc := recordOp_keeps opc s (·.acc) fun _ _ => rfl
@[simp] theorem recordOp_fcnt (opc : BitVec 4) (s : State) : (recordOp opc s).fcnt = s.fcnt := recordOp_keeps opc s (·.fcnt) fun _ _ => rfl
@[simp] theorem recordOp_res (opc : BitVec 4) (s : State) : (recordOp opc s).res = s.res := recordOp_keeps opc s (·.res) fun _ _ => rfl
@[simp] theorem recordOp_live (opc : BitVec 4) (s : State) : (recordOp opc s).live = s.live := recordOp_keeps opc s (·.live) fun _ _ => rfl
@[simp] theorem recordOp_host (opc : BitVec 4) (s : State) : (recordOp opc s).host = s.host := recordOp_keeps opc s (·.host) fun _ _ => rfl
@[simp] theorem recordOp_delivered (opc : BitVec 4) (s : State) : (recordOp opc s).delivered = s.delivered := recordOp_keeps opc s (·.delivered) fun _ _ => rfl
@[simp] theorem recordOp_stream (opc : BitVec 4) (s : State) : (recordOp opc s).stream = s.stream := recordOp_keeps opc s (·.stream) fun _ _ => rfl
@[simp] theorem recordOp_params (opc : BitVec 4) (s : State) : (recordOp opc s).params = s.params := recordOp_keeps opc s (·.params) fun _ _ => rfl
@[simp] theorem recordOp_fin (opc : BitVec 4) (s : State) : (recordOp opc s).fin = s.fin := recordOp_keeps opc s (·.fin) fun _ _ => rfl
@[simp] theorem recordOp_rsv (opc : BitVec 4) (s : State) : (recordOp opc s).rsv = s.rsv := recordOp_keeps opc s (·.rsv) fun _ _ => rfl
@[simp] theorem recordOp_opc (opc : BitVec 4) (s : State) : (recordOp opc s).opc = s.opc := recordOp_keeps opc s (·.opc) fun _ _ => rfl
@[simp] theorem recordOp_masked (opc : BitVec 4) (s : State) : (recordOp opc s).masked = s.masked := recordOp_keeps opc s (·.masked) fun _ _ => rfl
@[simp] theorem recordOp_len7 (opc : BitVec 4) (s : State) : (recordOp opc s).len7 = s.len7 := recordOp_keeps opc s (·.len7) fun _ _ => rfl

end Sys2Proof.Machine
end

