-- ==== Sys2Proof/Laws/Step.lean ====
section
/-! SUPPORT. What one step can be: the host's turn, then an instruction's meaning or the sequencer's own step; and runs,
step by step. -/

namespace Sys2Proof.Machine

/-- A quiet turn leaves every register to the block. -/
theorem turn_cases (s : State) :
    (∃ c ms, s.turn = .command c ms ∧
      (s.host = .issue c :: ms ∨ (s.host = .whenIdle c :: ms ∧ s.seq = .idle))) ∨
    (∃ ms, s.turn = .destroy ms ∧ s.host = .destroy :: ms) ∨
    (∃ ms, s.turn = .quiet ms ∧
      (s.host = [] ∧ ms = [] ∨ s.host = .pass :: ms ∨ ∃ c r, s.host = .whenIdle c :: r ∧ ms = s.host ∧ s.seq ≠ .idle)) := by
  unfold State.turn
  split
  · exact .inr (.inr ⟨_, rfl, .inl ⟨by assumption, rfl⟩⟩)
  · exact .inl ⟨_, _, rfl, .inl (by assumption)⟩
  · split
    · exact .inl ⟨_, _, rfl, .inr ⟨by assumption, by assumption⟩⟩
    · exact .inr (.inr ⟨_, rfl, .inr (.inr ⟨_, _, by assumption, by simp_all, by assumption⟩)⟩)
  · exact .inr (.inr ⟨_, rfl, .inr (.inl (by assumption))⟩)
  · exact .inr (.inl ⟨_, rfl, by assumption⟩)

/-- With the host quiet, a step is the block's own. -/
theorem step_quiet {s : State} {ms : List HostMove} (hl : s.live = true) (ht : s.turn = .quiet ms) :
    step s = advance (s.setHost ms) := by
  simp [step, takeStep, hl, ht]

/-- With a command at the port, a step is its meaning. -/
theorem step_command {s : State} {c : Command} {ms : List HostMove} (hl : s.live = true)
    (ht : s.turn = .command c ms) : step s = exec c.toInstr (s.setHost ms) := by
  simp [step, takeStep, hl, ht]

/-- Every step is one of four: held after destruction, a command's meaning, the destruction, or the block's own step. -/
theorem step_cases (s : State) :
    (s.live = false ∧ ∃ ms, step s = .next (s.setHost ms)) ∨
    (s.live = true ∧ ∃ c ms, s.turn = .command c ms ∧ step s = exec c.toInstr (s.setHost ms)) ∨
    (s.live = true ∧ ∃ ms, s.turn = .destroy ms ∧ step s = .next (s.setHost ms).destroy) ∨
    (s.live = true ∧ ∃ ms, s.turn = .quiet ms ∧ step s = advance (s.setHost ms)) := by
  cases hl : s.live <;> cases ht : s.turn <;> simp [step, takeStep, hl, ht] <;> exact ⟨_, rfl⟩

/-- The block's own step is the meaning of the header in place, or the sequencer's. -/
theorem advance_cases (s : State) :
    (∃ i, s.headerInstr = some i ∧ advance s = exec i s) ∨ (s.headerInstr = none ∧ advance s = sequencerStep s) := by
  unfold advance
  split
  · exact .inl ⟨_, by assumption, rfl⟩
  · exact .inr ⟨by assumption, rfl⟩

/-- A header is in place only at FDEC's reserved-bit check and at MRD's dispatch. -/
theorem headerInstr_cases {s : State} {i : Instr} (h : s.headerInstr = some i) :
    (s.seq = .fdH0 ∧ s.answered = true ∧ ∃ rest, decode [s.h0] = .ok (i, rest)) ∨
    (s.seq = .mrDispatch ∧ ∃ rest, decode [s.h0, s.h1] = .ok (i, rest)) := by
  unfold State.headerInstr State.headerBytes at h
  cases hs : s.seq <;> simp only [hs] at h <;> try (simp [decode] at h; done)
  · cases ha : s.answered
    · simp [ha, decode] at h
    · simp only [ha, if_true] at h
      split at h
      · rename_i hd
        exact .inl ⟨rfl, rfl, _, by rw [hd]; simp only [Option.some.injEq] at h; rw [h]⟩
      · simp at h
  · split at h
    · rename_i hd
      exact .inr ⟨rfl, _, by rw [hd]; simp only [Option.some.injEq] at h; rw [h]⟩
    · simp at h

/-! ### Runs -/

@[simp] theorem run_zero (s : State) : run 0 s = .next s := rfl

theorem run_succ (k : Nat) (s : State) :
    run (k + 1) s = match step s with
      | .next t => run k t
      | .fault r => .fault r
      | .refused r => .refused r := by
  have h : ∀ (M : Host.Core) (s : M.State), M.run (k + 1) s = match M.step s with
      | .next t => M.run k t
      | .fault r => .fault r
      | .refused r => .refused r := fun _ _ => rfl
  exact (h Sys2Proof.core s).trans (by cases hs : step s <;> simp [show Sys2Proof.core.step s = _ from hs, run] <;> rfl)

theorem run_next {s t : State} (h : step s = .next t) (k : Nat) : run (k + 1) s = run k t := by
  rw [run_succ, h]

/-- A run of `j + k` steps is `k` steps after `j`. -/
theorem run_add (j k : Nat) {s t : State} (h : run j s = .next t) : run (j + k) s = run k t := by
  induction j generalizing s with
  | zero => simp at h; rw [h, Nat.zero_add]
  | succ j ih =>
    rw [run_succ] at h
    split at h
    · rename_i u hu
      rw [Nat.succ_add, run_next hu, ih h]
    · simp at h
    · simp at h

theorem Reaches.refl (s : State) : Reaches s s := ⟨0, rfl⟩

theorem Reaches.trans {s t u : State} (h : Reaches s t) (h' : Reaches t u) : Reaches s u := by
  obtain ⟨j, hj⟩ := h
  obtain ⟨k, hk⟩ := h'
  exact ⟨j + k, by rw [run_add j k hj, hk]⟩

theorem Reaches.step {s t : State} (h : Machine.step s = .next t) : Reaches s t := ⟨1, by rw [run_next h, run_zero]⟩

/-- A property every step keeps holds wherever a run leads. -/
theorem reaches_induction {P : State → Prop} (keeps : ∀ s t, P s → Machine.step s = .next t → P t) {s t : State}
    (h : Reaches s t) (hs : P s) : P t := by
  obtain ⟨k, hk⟩ := h
  induction k generalizing s with
  | zero => simp at hk; exact hk ▸ hs
  | succ k ih =>
    rw [run_succ] at hk
    split at hk
    · exact ih (keeps _ _ hs (by assumption)) hk
    · simp at hk
    · simp at hk

end Sys2Proof.Machine
end

