-- ==== Sys2Proof/Laws/Advance.lean ====
section
/-! SUPPORT. Everything the block's own step can do, said once: `BlockStep s t` lists each way the block goes on, guards
included, and `BlockStop` each way it stops. Proofs about a step take these cases instead of unfolding the machine. -/

namespace Sys2Proof.Machine

/-- Each way the block goes on by itself from `s` (R82 to R91, R97, R28). -/
inductive BlockStep (s : State) : State → Prop
  /-- no command is in progress -/
  | rest (h : s.seq = .idle) : BlockStep s s
  /-- the read on the port is not answered (R50) -/
  | wait (n : Nat) (hp : s.pendingRead = some n) (hr : streamRead n s.stream = .noAnswer) : BlockStep s s
  /-- the read on the port is answered with an error (R92) -/
  | error (n : Nat) (e : TransportError) (rest : List StreamItem) (hp : s.pendingRead = some n)
      (hr : streamRead n s.stream = .error e rest) : BlockStep s (raise (.transport e) (s.setStream rest))
  | gotH0 (bs : List Byte) (rest : List StreamItem) (h : s.seq = .fdH0) (ha : s.answered = false)
      (hr : streamRead 1 s.stream = .data bs rest) :
      BlockStep s ((s.setStream rest).setH0 (bs.getD 0 0)).setAnswered
  | gotH1 (bs : List Byte) (rest : List StreamItem) (h : s.seq = .fdH1) (ha : s.answered = false)
      (hr : streamRead 1 s.stream = .data bs rest) :
      BlockStep s ((s.setStream rest).setH1 (bs.getD 0 0)).setAnswered
  | gotX16 (bs : List Byte) (rest : List StreamItem) (h : s.seq = .fdX16) (ha : s.answered = false)
      (hr : streamRead 2 s.stream = .data bs rest) :
      BlockStep s ((s.setStream rest).setPlen (be16 bs)).setAnswered
  | gotX64 (bs : List Byte) (rest : List StreamItem) (h : s.seq = .fdX64) (ha : s.answered = false)
      (hr : streamRead 8 s.stream = .data bs rest) :
      BlockStep s ((s.setStream rest).setPlen (be64 bs)).setAnswered
  | gotKey (bs : List Byte) (rest : List StreamItem) (h : s.seq = .fdKey) (hm : s.masked = true)
      (hr : streamRead 4 s.stream = .data bs rest) :
      BlockStep s (((s.setStream rest).setKey (MaskKey.ofBytes bs)).goto .fdPay)
  | gotPayload (bs : List Byte) (rest : List StreamItem) (h : s.seq = .fdPay) (ha : s.answered = false)
      (hn : 0 < s.plen.toNat) (hr : streamRead s.plen.toNat s.stream = .data bs rest) :
      BlockStep s ((s.setStream rest).setPbuf bs).setAnswered
  | noKey (h : s.seq = .fdKey) (hm : s.masked = false) : BlockStep s (s.goto .fdPay)
  | noPayload (h : s.seq = .fdPay) (ha : s.answered = false) (hn : s.plen.toNat = 0) :
      BlockStep s ((s.setPbuf []).goto .fdEnd)
  | rsvSet (h : s.seq = .fdH0) (ha : s.answered = true) (hr : s.rsv ≠ 0) :
      BlockStep s (raise (.protocolRsv s.rsv) s)
  | rsvClear (h : s.seq = .fdH0) (ha : s.answered = true) (hr : s.rsv = 0) : BlockStep s (s.goto .fdH1)
  | direct (h : s.seq = .fdH1) (ha : s.answered = true) (hl : s.len7.toNat ≤ 125)
      (hc : exceeds s.params.accCap s.len7.toNat = false) : BlockStep s ((s.setPlen s.len7.toNat).goto .fdKey)
  | ext16 (h : s.seq = .fdH1) (ha : s.answered = true) (hl : s.len7.toNat = 126) : BlockStep s (s.goto .fdX16)
  | ext64 (h : s.seq = .fdH1) (ha : s.answered = true) (hl : s.len7.toNat = 127) : BlockStep s (s.goto .fdX64)
  | extended (h : s.seq = .fdX16 ∨ s.seq = .fdX64) (ha : s.answered = true) (hl : s.plen.toNat < 2 ^ 63)
      (hc : exceeds s.params.accCap s.plen.toNat = false) : BlockStep s (s.goto .fdKey)
  | unmasked (h : s.seq = .fdPay) (ha : s.answered = true) (hm : s.masked = true) :
      BlockStep s ((s.setPbuf (unm s.key 0 s.pbuf).1).goto .fdEnd)
  | clear (h : s.seq = .fdPay) (ha : s.answered = true) (hm : s.masked = false) : BlockStep s (s.goto .fdEnd)
  | returnFrame (h : s.seq = .fdEnd) (hc : s.cmd = .decodeFrame) :
      BlockStep s (returnResult (.frame s.fin s.opc s.masked s.pbuf) s)
  | toDispatch (h : s.seq = .fdEnd) (hc : s.cmd = .readMessage) : BlockStep s (s.goto .mrDispatch)
  /-- no run from reset reaches this (log 12) -/
  | noCommand (h : s.seq = .fdEnd) (hc : s.cmd = .none) : BlockStep s s
  /-- no run from reset reaches this (log 12) -/
  | dispatchRsv (h : s.seq = .mrDispatch) (hr : s.rsv ≠ 0) : BlockStep s (raise (.protocolRsv s.rsv) s)
  | fastPath (h : s.seq = .mrDispatch) (hr : s.rsv = 0) (ho : s.opc.toNat ≤ 2) (ha : s.acc = []) (hf : s.fin = true) :
      BlockStep s (returnResult (.message s.opc s.pbuf) s)
  | lastFragment (h : s.seq = .mrDispatch) (hr : s.rsv = 0) (ho : s.opc.toNat ≤ 2) (ha : s.acc ≠ [])
      (hf : s.fin = true) (hc : exceeds s.params.accCap (s.acc.length + s.pbuf.length) = false) :
      BlockStep s (returnResult (.message (recordOp s.opc (s.setAcc (s.acc ++ s.pbuf))).msgOp (s.acc ++ s.pbuf))
        (recordOp s.opc (s.setAcc (s.acc ++ s.pbuf))))
  | fragment (h : s.seq = .mrDispatch) (hr : s.rsv = 0) (ho : s.opc.toNat ≤ 2) (hf : s.fin = false)
      (hc : exceeds s.params.accCap (s.acc.length + s.pbuf.length) = false) :
      BlockStep s (countFrame (recordOp s.opc (s.setAcc (s.acc ++ s.pbuf))))
  | pingPong (h : s.seq = .mrDispatch) (hr : s.rsv = 0) (ho : s.opc = 9 ∨ s.opc = 10) : BlockStep s (countFrame s)
  | closeFrame (h : s.seq = .mrDispatch) (hr : s.rsv = 0) (ho : s.opc = 8) : BlockStep s (raise .close s.setClosed)
  | reserved (h : s.seq = .mrDispatch) (hr : s.rsv = 0) (ho : s.opc.toNat ∉ [0, 1, 2, 8, 9, 10]) :
      BlockStep s (raise (.protocolOpcode s.fin s.opc) s)
  | delivered (h : s.seq = .done) : BlockStep s (deliver s)

/-- Each way the block stops by itself from `s`: a length or an append beyond the capacity, a refused length (R86, R87,
R99). -/
inductive BlockStop (s : State) : Outcome → Prop
  | directCap (h : s.seq = .fdH1) (ha : s.answered = true) (hl : s.len7.toNat ≤ 125)
      (hc : exceeds s.params.accCap s.len7.toNat = true) : BlockStop s (.fault .capacity)
  | extendedCap (h : s.seq = .fdX16 ∨ s.seq = .fdX64) (ha : s.answered = true) (hl : s.plen.toNat < 2 ^ 63)
      (hc : exceeds s.params.accCap s.plen.toNat = true) : BlockStop s (.fault .capacity)
  | appendCap (h : s.seq = .mrDispatch) (hr : s.rsv = 0) (ho : s.opc.toNat ≤ 2) (ha : s.acc ≠ [] ∨ s.fin = false)
      (hc : exceeds s.params.accCap (s.acc.length + s.pbuf.length) = true) : BlockStop s (.fault .capacity)
  | msbSet (h : s.seq = .fdX16 ∨ s.seq = .fdX64) (ha : s.answered = true) (hl : 2 ^ 63 ≤ s.plen.toNat) :
      BlockStop s (.refused .lenMsbSet)

/-- An outcome is a next state the block can go on to, or a stop. -/
def BlockOutcome (s : State) : Outcome → Prop
  | .next t => BlockStep s t
  | o => BlockStop s o

/-- One read transaction, from what it does with data. -/
theorem readThen_outcome {s : State} {n : Nat} {k : List Byte → State → State} (hp : s.pendingRead = some n)
    (hk : ∀ bs rest, streamRead n s.stream = .data bs rest → BlockStep s (k bs (s.setStream rest))) :
    BlockOutcome s (readThen n s k) := by
  rcases readThen_cases (o := readThen n s k) rfl with ⟨bs, rest, hr, e⟩ | ⟨e', rest, hr, e⟩ | ⟨hr, e⟩ <;> rw [e]
  · exact hk bs rest hr
  · exact .error n e' rest hp hr
  · exact .wait n hp hr

/-- The length check (R86, R87) by its verdict. -/
theorem checkLength_outcome (s : State) :
    (2 ^ 63 ≤ s.plen.toNat ∧ checkLength s = .refused .lenMsbSet) ∨
    (s.plen.toNat < 2 ^ 63 ∧ exceeds s.params.accCap s.plen.toNat = true ∧ checkLength s = .fault .capacity) ∨
    (s.plen.toNat < 2 ^ 63 ∧ exceeds s.params.accCap s.plen.toNat = false ∧ checkLength s = .next (s.goto .fdKey)) := by
  unfold checkLength lenVerdict
  by_cases h : 2 ^ 63 ≤ s.plen.toNat
  · exact .inl ⟨h, by rw [if_pos h]⟩
  · cases hc : exceeds s.params.accCap s.plen.toNat
    · exact .inr (.inr ⟨by omega, rfl, by rw [if_neg h]; rfl⟩)
    · exact .inr (.inl ⟨by omega, rfl, by rw [if_neg h]; rfl⟩)

/-- The sequencer's own step is one of the listed ones, where no header is due. -/
theorem sequencerStep_outcome {s : State} (hd : s.seq ≠ .mrDispatch) (hr : s.seq = .fdH0 → s.answered = true → s.rsv = 0) :
    BlockOutcome s (sequencerStep s) := by
  unfold sequencerStep
  split <;> rename_i hs ha
  · exact .rest ha
  · exact readThen_outcome (by simp [State.pendingRead, hs, ha]) fun bs rest h => .gotH0 bs rest hs ha h
  · exact .rsvClear hs ha (hr hs ha)
  · exact readThen_outcome (by simp [State.pendingRead, hs, ha]) fun bs rest h => .gotH1 bs rest hs ha h
  · unfold resolveLength lenSource Config.lenDirectMax Config.len16Esc
    by_cases h1 : s.len7.toNat ≤ 125
    · rw [if_pos h1]
      have hn : (s.setPlen s.len7.toNat).plen.toNat = s.len7.toNat := by simp; omega
      rcases checkLength_outcome (s.setPlen s.len7.toNat) with ⟨hm, -⟩ | ⟨-, hc, e⟩ | ⟨-, hc, e⟩
      · omega
      · simp only [e]; exact .directCap hs ha h1 (by rw [hn] at hc; exact hc)
      · simp only [e]; exact .direct hs ha h1 (by rw [hn] at hc; exact hc)
    · rw [if_neg h1]
      by_cases h2 : s.len7.toNat = 126
      · rw [if_pos h2]; exact .ext16 hs ha h2
      · rw [if_neg h2]; exact .ext64 hs ha (by have := s.len7.isLt; omega)
  · exact readThen_outcome (by simp [State.pendingRead, hs, ha]) fun bs rest h => .gotX16 bs rest hs ha h
  · rcases checkLength_outcome s with ⟨hm, e⟩ | ⟨hm, hc, e⟩ | ⟨hm, hc, e⟩ <;> rw [e]
    · exact .msbSet (.inl hs) ha hm
    · exact .extendedCap (.inl hs) ha hm hc
    · exact .extended (.inl hs) ha hm hc
  · exact readThen_outcome (by simp [State.pendingRead, hs, ha]) fun bs rest h => .gotX64 bs rest hs ha h
  · rcases checkLength_outcome s with ⟨hm, e⟩ | ⟨hm, hc, e⟩ | ⟨hm, hc, e⟩ <;> rw [e]
    · exact .msbSet (.inr hs) ha hm
    · exact .extendedCap (.inr hs) ha hm hc
    · exact .extended (.inr hs) ha hm hc
  · unfold readKey
    cases hm : s.masked
    · exact .noKey ha hm
    · exact readThen_outcome (n := 4) (k := fun bs s => (s.setKey (MaskKey.ofBytes bs)).goto .fdPay)
        (by simp [State.pendingRead, ha, hm, Config.keyBytes]) fun bs rest h => .gotKey bs rest ha hm h
  · unfold readPayload
    by_cases hn : 0 < s.plen.toNat
    · rw [if_pos hn]
      exact readThen_outcome (by simp [State.pendingRead, hs, ha, hn]) fun bs rest h => .gotPayload bs rest hs ha hn h
    · rw [if_neg hn]; exact .noPayload hs ha (by omega)
  · unfold unmaskPayload
    cases hm : s.masked
    · exact .clear hs ha hm
    · exact .unmasked hs ha hm
  · unfold endFrame
    cases hc : s.cmd
    · exact .noCommand ha hc
    · exact .returnFrame ha hc
    · exact .toDispatch ha hc
  · exact absurd ha hd
  · exact .delivered ha

/-! ### The headers a step decodes -/

/-- Byte 0 alone decodes exactly when a reserved bit is set (R65). -/
theorem decode_byte0 (b : Byte) :
    ((hx0 b).rsv = 0 ∧ decode [b] = .error .noByte1) ∨
    ((hx0 b).rsv ≠ 0 ∧ decode [b] = .ok (instrOfRsv (hx0 b), [])) := by
  by_cases h : (hx0 b).rsv = 0
  · exact .inl ⟨h, by simp only [decode, if_pos h]⟩
  · exact .inr ⟨h, by simp only [decode, if_neg h]⟩

/-- Two header bytes always decode (R64). -/
theorem decode_header (b0 b1 : Byte) :
    ((hx0 b0).rsv = 0 ∧
      decode [b0, b1] = .ok (instrOfOpcode (hx0 b0).opc (hx0 b0).fin (hx1 b1).mask (hx1 b1).len7, [])) ∨
    ((hx0 b0).rsv ≠ 0 ∧ decode [b0, b1] = .ok (instrOfRsv (hx0 b0), [b1])) := by
  by_cases h : (hx0 b0).rsv = 0
  · exact .inl ⟨h, by simp only [decode, if_pos h]⟩
  · exact .inr ⟨h, by simp only [decode, if_neg h]⟩

/-- The three bits put together again. -/
theorem rsvBits_getLsbD (v : BitVec 3) : rsvBits (v.getLsbD 2) (v.getLsbD 1) (v.getLsbD 0) = v := by
  revert v; decide

/-- A reserved-bit header raises its own three bits (R83, R118). -/
theorem exec_instrOfRsv {x : Hdr0} (h : x.rsv ≠ 0) (s : State) :
    exec (instrOfRsv x) s = .next (raise (.protocolRsv x.rsv) s) := by
  have hb := rsvBits_getLsbD x.rsv
  unfold instrOfRsv
  by_cases h2 : x.rsv.getLsbD 2 = true
  · rw [h2] at hb
    rw [if_pos h2]
    show Host.Outcome.next (raise (.protocolRsv (rsvBits true _ _)) s) = _
    rw [hb]
  · have h2' : x.rsv.getLsbD 2 = false := by simpa using h2
    rw [if_neg h2]
    by_cases h1 : x.rsv.getLsbD 1 = true
    · rw [h2', h1] at hb
      rw [if_pos h1]
      show Host.Outcome.next (raise (.protocolRsv (rsvBits false true _)) s) = _
      rw [hb]
    · have h1' : x.rsv.getLsbD 1 = false := by simpa using h1
      rw [if_neg h1]
      by_cases h0 : x.rsv.getLsbD 0 = true
      · rw [← hb, h2', h1', h0]; rfl
      · have h0' : x.rsv.getLsbD 0 = false := by simpa using h0
        rw [h2', h1', h0'] at hb
        exact absurd hb.symm h

/-- The dispatch of R97, by the opcode's value. -/
theorem exec_instrOfOpcode (opc : BitVec 4) (fin masked : Bool) (len7 : BitVec 7) (s : State) :
    (opc.toNat ≤ 2 ∧ exec (instrOfOpcode opc fin masked len7) s = dataFrame opc fin s) ∨
    ((opc = 9 ∨ opc = 10) ∧ exec (instrOfOpcode opc fin masked len7) s = .next (countFrame s)) ∨
    (opc = 8 ∧ exec (instrOfOpcode opc fin masked len7) s = .next (raise .close s.setClosed)) ∨
    (opc.toNat ∉ [0, 1, 2, 8, 9, 10] ∧
      exec (instrOfOpcode opc fin masked len7) s = .next (raise (.protocolOpcode fin opc) s)) := by
  have all : opc = 0 ∨ opc = 1 ∨ opc = 2 ∨ opc = 3 ∨ opc = 4 ∨ opc = 5 ∨ opc = 6 ∨ opc = 7 ∨ opc = 8 ∨ opc = 9 ∨
      opc = 10 ∨ opc = 11 ∨ opc = 12 ∨ opc = 13 ∨ opc = 14 ∨ opc = 15 := by revert opc; decide
  rcases all with rfl | rfl | rfl | rfl | rfl | rfl | rfl | rfl | rfl | rfl | rfl | rfl | rfl | rfl | rfl | rfl
  · exact .inl ⟨by decide, rfl⟩
  · exact .inl ⟨by decide, rfl⟩
  · exact .inl ⟨by decide, rfl⟩
  · exact .inr (.inr (.inr ⟨by decide, rfl⟩))
  · exact .inr (.inr (.inr ⟨by decide, rfl⟩))
  · exact .inr (.inr (.inr ⟨by decide, rfl⟩))
  · exact .inr (.inr (.inr ⟨by decide, rfl⟩))
  · exact .inr (.inr (.inr ⟨by decide, rfl⟩))
  · exact .inr (.inr (.inl ⟨rfl, rfl⟩))
  · exact .inr (.inl ⟨.inl rfl, rfl⟩)
  · exact .inr (.inl ⟨.inr rfl, rfl⟩)
  · exact .inr (.inr (.inr ⟨by decide, rfl⟩))
  · exact .inr (.inr (.inr ⟨by decide, rfl⟩))
  · exact .inr (.inr (.inr ⟨by decide, rfl⟩))
  · exact .inr (.inr (.inr ⟨by decide, rfl⟩))
  · exact .inr (.inr (.inr ⟨by decide, rfl⟩))

/-- At the dispatch with clear reserved bits, the block runs the opcode's instruction. -/
theorem advance_dispatch {s : State} (h : s.seq = .mrDispatch) (hr : s.rsv = 0) :
    advance s = exec (instrOfOpcode s.opc s.fin s.masked s.len7) s := by
  rcases decode_header s.h0 s.h1 with ⟨-, e⟩ | ⟨hn, -⟩
  · simp only [advance, State.headerInstr, State.headerBytes, h, e]; rfl
  · exact absurd hr hn

/-- Where no header is due, the block's own step is the sequencer's. -/
theorem advance_sequencer {s : State} (hd : s.seq ≠ .mrDispatch)
    (hr : s.seq = .fdH0 → s.answered = true → s.rsv = 0) : advance s = sequencerStep s := by
  rcases advance_cases s with ⟨i, hi, -⟩ | ⟨-, e⟩
  · rcases headerInstr_cases hi with ⟨hs, ha, rest, hdec⟩ | ⟨hs, -⟩
    · rcases decode_byte0 s.h0 with ⟨-, e⟩ | ⟨hn, -⟩
      · rw [e] at hdec; cases hdec
      · exact absurd (hr hs ha) hn
    · exact absurd hs hd
  · exact e

/-- Everything the block's own step can do. -/
theorem advance_outcome (s : State) : BlockOutcome s (advance s) := by
  by_cases hd : s.seq = .mrDispatch
  · rcases decode_header s.h0 s.h1 with ⟨hr, -⟩ | ⟨hn, e⟩
    · have hr' : s.rsv = 0 := hr
      rw [advance_dispatch hd hr']
      rcases exec_instrOfOpcode s.opc s.fin s.masked s.len7 s with ⟨ho, e⟩ | ⟨ho, e⟩ | ⟨ho, e⟩ | ⟨ho, e⟩ <;> rw [e]
      · rcases dataFrame_cases (o := dataFrame s.opc s.fin s) rfl with
          ⟨ha, hf, e⟩ | ⟨ha, hc, e⟩ | ⟨ha, hf, hc, e⟩ | ⟨hf, hc, e⟩ <;> rw [e]
        · exact .fastPath hd hr' ho ha hf
        · exact .appendCap hd hr' ho ha hc
        · exact .lastFragment hd hr' ho ha hf hc
        · exact .fragment hd hr' ho hf hc
      · exact .pingPong hd hr' ho
      · exact .closeFrame hd hr' ho
      · exact .reserved hd hr' ho
    · have : advance s = exec (instrOfRsv (hx0 s.h0)) s := by
        simp only [advance, State.headerInstr, State.headerBytes, hd, e]
      rw [this, exec_instrOfRsv hn]
      exact .dispatchRsv hd hn
  · by_cases hr : s.seq = .fdH0 ∧ s.answered = true ∧ s.rsv ≠ 0
    · obtain ⟨hs, ha, hn⟩ := hr
      rcases decode_byte0 s.h0 with ⟨hz, -⟩ | ⟨-, e⟩
      · exact absurd hz hn
      · have : advance s = exec (instrOfRsv (hx0 s.h0)) s := by
          simp only [advance, State.headerInstr, State.headerBytes, hs, ha, if_true, e]
        rw [this, exec_instrOfRsv hn]
        exact .rsvSet hs ha hn
    · have hr' : s.seq = .fdH0 → s.answered = true → s.rsv = 0 := fun hs ha => by
        by_contra hn; exact hr ⟨hs, ha, hn⟩
      rw [advance_sequencer hd hr']
      exact sequencerStep_outcome hd hr'

theorem advance_next {s t : State} (h : advance s = .next t) : BlockStep s t := by
  have := advance_outcome s
  rwa [h] at this

theorem advance_fault {s : State} {r : Fault} (h : advance s = .fault r) : BlockStop s (.fault r) := by
  have := advance_outcome s
  rwa [h] at this

theorem advance_refused {s : State} {r : Refusal} (h : advance s = .refused r) : BlockStop s (.refused r) := by
  have := advance_outcome s
  rwa [h] at this

/-! ### The host's commands -/

/-- Each way a command is accepted (R27, R32, R78). -/
inductive Accepted (s : State) : Command → State → Prop
  | unmask (key : MaskKey) (ofs : BitVec 2) (data : List Byte) (h : s.seq = .idle) :
      Accepted s (.unmask key ofs data)
        ((s.setRes (.unmasked (unm key ofs data).1 (unm key ofs data).2)).deliverToHost
          (.unmasked (unm key ofs data).1 (unm key ofs data).2))
  | decodeFrame (h : s.seq = .idle) (hc : s.closed = false) :
      Accepted s .decodeFrame ((s.setCmd .decodeFrame).goto .fdH0)
  | readMessage (h : s.seq = .idle) (hc : s.closed = false) :
      Accepted s .readMessage (((((s.setCmd .readMessage).setAcc []).setMsgOp 0).setFcnt 0).goto .fdH0)

/-- A command is accepted, or faults while another is in progress or after the close signal (R128, R129). -/
theorem exec_command_cases (c : Command) (s : State) :
    (s.seq ≠ .idle ∧ exec c.toInstr s = .fault .concurrent) ∨
    (s.seq = .idle ∧ s.closed = true ∧ exec c.toInstr s = .fault .callAfterClose) ∨
    (∃ t, exec c.toInstr s = .next t ∧ Accepted s c t) := by
  cases c with
  | unmask key ofs data =>
    by_cases h : s.seq = .idle
    · exact .inr (.inr ⟨_, by simp only [Command.toInstr, exec, execUnmask, h, ne_eq, not_true, if_false], .unmask key ofs data h⟩)
    · exact .inl ⟨h, by simp [Command.toInstr, exec, execUnmask, h]⟩
  | decodeFrame =>
    rcases acceptThen_cases (s := s)
        (k := fun s => (s.setCmd .decodeFrame).goto .fdH0) rfl with ⟨h, e⟩ | ⟨h, hc, e⟩ | ⟨h, hc, e⟩
    · exact .inl ⟨h, e⟩
    · exact .inr (.inl ⟨h, hc, e⟩)
    · exact .inr (.inr ⟨_, e, .decodeFrame h hc⟩)
  | readMessage =>
    rcases acceptThen_cases (s := s)
        (k := fun s => ((((s.setCmd .readMessage).setAcc []).setMsgOp 0).setFcnt 0).goto .fdH0) rfl with ⟨h, e⟩ | ⟨h, hc, e⟩ | ⟨h, hc, e⟩
    · exact .inl ⟨h, e⟩
    · exact .inr (.inl ⟨h, hc, e⟩)
    · exact .inr (.inr ⟨_, e, .readMessage h hc⟩)

/-- Every way a step answers a next state, the host's list after it being `ms`. -/
theorem step_next {s t : State} (h : step s = .next t) :
    (s.live = false ∧ ∃ ms, t = s.setHost ms) ∨
    (s.live = true ∧ ∃ c ms, s.turn = .command c ms ∧ Accepted (s.setHost ms) c t) ∨
    (s.live = true ∧ ∃ ms, s.turn = .destroy ms ∧ t = (s.setHost ms).destroy) ∨
    (s.live = true ∧ ∃ ms, s.turn = .quiet ms ∧ BlockStep (s.setHost ms) t) := by
  rcases step_cases s with ⟨hl, ms, e⟩ | ⟨hl, c, ms, ht, e⟩ | ⟨hl, ms, ht, e⟩ | ⟨hl, ms, ht, e⟩ <;> rw [e] at h
  · exact .inl ⟨hl, ms, by injection h with h; exact h.symm⟩
  · rcases exec_command_cases c (s.setHost ms) with ⟨-, e⟩ | ⟨-, -, e⟩ | ⟨u, e, ha⟩ <;> rw [e] at h
    · cases h
    · cases h
    · injection h with h; exact .inr (.inl ⟨hl, c, ms, ht, h ▸ ha⟩)
  · exact .inr (.inr (.inl ⟨hl, ms, ht, by injection h with h; exact h.symm⟩))
  · exact .inr (.inr (.inr ⟨hl, ms, ht, advance_next h⟩))

end Sys2Proof.Machine
end

