-- ==== Sys2Proof/Laws/PerInstr.lean ====
section
/-! SUPPORT. Per instruction: the encoding lies in the instruction's own row of spec/opcode_table.json (R58, R63, R65). -/

namespace Sys2Proof.Laws

/-- The header word of an encoding; a one-byte encoding is followed by a byte that is never read. -/
def headerWord (bytes : List Byte) (unread : Byte) : BitVec 16 :=
  match bytes with
  | [] => 0
  | [b0] => b0 ++ unread
  | b0 :: b1 :: _ => b0 ++ b1

/-- A header word lies in the row of a mnemonic. -/
def InRow (mnemonic : String) (hw : BitVec 16) : Prop := ∃ r ∈ opcodeRows, r.mnemonic = mnemonic ∧ r.covers hw = true

/-- Every row's mask has a low byte of zeros: byte 0 alone decides. -/
theorem covers_of_byte0 {r : Row} {m v b0 : Byte} (b1 : Byte) (hm : r.mask = m ++ 0#8) (hv : r.value = v ++ 0#8)
    (h : b0 &&& m = v) : r.covers (b0 ++ b1) = true := by
  simp only [Row.covers, hm, hv, decide_eq_true_eq]
  rw [BitVec.and_append, h, BitVec.and_zero]

namespace TableRow

/-- The encoding of `i`, whatever byte stands after it, lies in the row that bears `i`'s mnemonic; a host command has no
wire encoding and no such row. -/
def Statement (i : Instr) : Prop :=
  match encode i with
  | .wire bytes => ∀ unread : Byte, InRow i.mnemonic (headerWord bytes unread)
  | .port _ => ∀ r ∈ opcodeRows, r.mnemonic ≠ i.mnemonic

theorem cont (fin masked : Bool) (len7 : BitVec 7) : Statement (.cont fin masked len7) := fun _ =>
  ⟨⟨"CONT", 0x0000, 0x7F00⟩, by decide, rfl,
    covers_of_byte0 (m := 0x7F) (v := 0x00) (byte1 masked len7) rfl rfl (by cases fin <;> rfl)⟩

theorem text (fin masked : Bool) (len7 : BitVec 7) : Statement (.text fin masked len7) := fun _ =>
  ⟨⟨"TEXT", 0x0100, 0x7F00⟩, by decide, rfl,
    covers_of_byte0 (m := 0x7F) (v := 0x01) (byte1 masked len7) rfl rfl (by cases fin <;> rfl)⟩

theorem binary (fin masked : Bool) (len7 : BitVec 7) : Statement (.binary fin masked len7) := fun _ =>
  ⟨⟨"BINARY", 0x0200, 0x7F00⟩, by decide, rfl,
    covers_of_byte0 (m := 0x7F) (v := 0x02) (byte1 masked len7) rfl rfl (by cases fin <;> rfl)⟩

theorem rsvd3 (fin masked : Bool) (len7 : BitVec 7) : Statement (.rsvd3 fin masked len7) := fun _ =>
  ⟨⟨"RSVD3", 0x0300, 0x7F00⟩, by decide, rfl,
    covers_of_byte0 (m := 0x7F) (v := 0x03) (byte1 masked len7) rfl rfl (by cases fin <;> rfl)⟩

theorem rsvd4 (fin masked : Bool) (len7 : BitVec 7) : Statement (.rsvd4 fin masked len7) := fun _ =>
  ⟨⟨"RSVD4", 0x0400, 0x7F00⟩, by decide, rfl,
    covers_of_byte0 (m := 0x7F) (v := 0x04) (byte1 masked len7) rfl rfl (by cases fin <;> rfl)⟩

theorem rsvd5 (fin masked : Bool) (len7 : BitVec 7) : Statement (.rsvd5 fin masked len7) := fun _ =>
  ⟨⟨"RSVD5", 0x0500, 0x7F00⟩, by decide, rfl,
    covers_of_byte0 (m := 0x7F) (v := 0x05) (byte1 masked len7) rfl rfl (by cases fin <;> rfl)⟩

theorem rsvd6 (fin masked : Bool) (len7 : BitVec 7) : Statement (.rsvd6 fin masked len7) := fun _ =>
  ⟨⟨"RSVD6", 0x0600, 0x7F00⟩, by decide, rfl,
    covers_of_byte0 (m := 0x7F) (v := 0x06) (byte1 masked len7) rfl rfl (by cases fin <;> rfl)⟩

theorem rsvd7 (fin masked : Bool) (len7 : BitVec 7) : Statement (.rsvd7 fin masked len7) := fun _ =>
  ⟨⟨"RSVD7", 0x0700, 0x7F00⟩, by decide, rfl,
    covers_of_byte0 (m := 0x7F) (v := 0x07) (byte1 masked len7) rfl rfl (by cases fin <;> rfl)⟩

theorem close (fin masked : Bool) (len7 : BitVec 7) : Statement (.close fin masked len7) := fun _ =>
  ⟨⟨"CLOSE", 0x0800, 0x7F00⟩, by decide, rfl,
    covers_of_byte0 (m := 0x7F) (v := 0x08) (byte1 masked len7) rfl rfl (by cases fin <;> rfl)⟩

theorem ping (fin masked : Bool) (len7 : BitVec 7) : Statement (.ping fin masked len7) := fun _ =>
  ⟨⟨"PING", 0x0900, 0x7F00⟩, by decide, rfl,
    covers_of_byte0 (m := 0x7F) (v := 0x09) (byte1 masked len7) rfl rfl (by cases fin <;> rfl)⟩

theorem pong (fin masked : Bool) (len7 : BitVec 7) : Statement (.pong fin masked len7) := fun _ =>
  ⟨⟨"PONG", 0x0A00, 0x7F00⟩, by decide, rfl,
    covers_of_byte0 (m := 0x7F) (v := 0x0A) (byte1 masked len7) rfl rfl (by cases fin <;> rfl)⟩

theorem rsvdB (fin masked : Bool) (len7 : BitVec 7) : Statement (.rsvdB fin masked len7) := fun _ =>
  ⟨⟨"RSVDB", 0x0B00, 0x7F00⟩, by decide, rfl,
    covers_of_byte0 (m := 0x7F) (v := 0x0B) (byte1 masked len7) rfl rfl (by cases fin <;> rfl)⟩

theorem rsvdC (fin masked : Bool) (len7 : BitVec 7) : Statement (.rsvdC fin masked len7) := fun _ =>
  ⟨⟨"RSVDC", 0x0C00, 0x7F00⟩, by decide, rfl,
    covers_of_byte0 (m := 0x7F) (v := 0x0C) (byte1 masked len7) rfl rfl (by cases fin <;> rfl)⟩

theorem rsvdD (fin masked : Bool) (len7 : BitVec 7) : Statement (.rsvdD fin masked len7) := fun _ =>
  ⟨⟨"RSVDD", 0x0D00, 0x7F00⟩, by decide, rfl,
    covers_of_byte0 (m := 0x7F) (v := 0x0D) (byte1 masked len7) rfl rfl (by cases fin <;> rfl)⟩

theorem rsvdE (fin masked : Bool) (len7 : BitVec 7) : Statement (.rsvdE fin masked len7) := fun _ =>
  ⟨⟨"RSVDE", 0x0E00, 0x7F00⟩, by decide, rfl,
    covers_of_byte0 (m := 0x7F) (v := 0x0E) (byte1 masked len7) rfl rfl (by cases fin <;> rfl)⟩

theorem rsvdF (fin masked : Bool) (len7 : BitVec 7) : Statement (.rsvdF fin masked len7) := fun _ =>
  ⟨⟨"RSVDF", 0x0F00, 0x7F00⟩, by decide, rfl,
    covers_of_byte0 (m := 0x7F) (v := 0x0F) (byte1 masked len7) rfl rfl (by cases fin <;> rfl)⟩

theorem rsv1Set (fin rsv2 rsv3 : Bool) (opc : BitVec 4) : Statement (.rsv1Set fin rsv2 rsv3 opc) := fun unread =>
  ⟨⟨"RSV1_SET", 0x4000, 0x4000⟩, by decide, rfl,
    covers_of_byte0 (m := 0x40) (v := 0x40) unread rfl rfl (by revert fin rsv2 rsv3 opc; decide)⟩

theorem rsv2Set (fin rsv3 : Bool) (opc : BitVec 4) : Statement (.rsv2Set fin rsv3 opc) := fun unread =>
  ⟨⟨"RSV2_SET", 0x2000, 0x6000⟩, by decide, rfl,
    covers_of_byte0 (m := 0x60) (v := 0x20) unread rfl rfl (by revert fin rsv3 opc; decide)⟩

theorem rsv3Set (fin : Bool) (opc : BitVec 4) : Statement (.rsv3Set fin opc) := fun unread =>
  ⟨⟨"RSV3_SET", 0x1000, 0x7000⟩, by decide, rfl,
    covers_of_byte0 (m := 0x70) (v := 0x10) unread rfl rfl (by revert fin opc; decide)⟩

theorem unmask (key : MaskKey) (ofs : BitVec 2) (data : List Byte) : Statement (.unmask key ofs data) := by
  show ∀ r ∈ opcodeRows, r.mnemonic ≠ "UNMASK"
  decide

theorem decodeFrame : Statement .decodeFrame := by
  show ∀ r ∈ opcodeRows, r.mnemonic ≠ "DECODE_FRAME"
  decide

theorem readMessage : Statement .readMessage := by
  show ∀ r ∈ opcodeRows, r.mnemonic ≠ "READ_MESSAGE"
  decide

end TableRow

end Sys2Proof.Laws
end

