-- ==== Sys2Proof/Tests/Slice0.lean ====
section
/-! SUPPORT. The model's own tests: the ill-formed terms, one written-out header per constructor, single steps with the
values of spec/95_test_vectors.md, and for every statement with hypotheses a witness that meets them. -/

namespace Sys2Proof.Tests

open Sys2Proof Sys2Proof.Machine

/-! ### Small states -/

/-- The machine after reset, the policy fixed so that a test can evaluate it. -/
def base : State := { State.reset with params := { recordPolicy := .overwrite, accCap := none } }

/-- A READ_MESSAGE in progress in the `SEQ` state `q`. -/
def reading (q : Seq) : State := { base with seq := q, cmd := .readMessage }

/-- READ_MESSAGE at the dispatch, with a payload and an accumulator. -/
def dispatching (acc payload : List Byte) (msgOp : BitVec 4) (fcnt : BitVec 7) : State :=
  { reading .mrDispatch with acc := acc, pbuf := payload, msgOp := msgOp, fcnt := fcnt }

/-- The same state under `keep_first`. -/
def keepFirst (s : State) : State := { s with params := { s.params with recordPolicy := .keepFirst } }

/-- The same state with a capacity. -/
def capped (n : Nat) (s : State) : State := { s with params := { s.params with accCap := some n } }

/-- The next state of an outcome. -/
def next? : Outcome → Option State
  | .next t => some t
  | .fault _ => none
  | .refused _ => none

/-- The fault of an outcome. -/
def fault? : Outcome → Option Fault
  | .next _ => none
  | .fault r => some r
  | .refused _ => none

/-- The refusal of an outcome. -/
def refusal? : Outcome → Option Refusal
  | .next _ => none
  | .fault _ => none
  | .refused r => some r

/-- The key 37:fa:21:3d of the vectors. -/
def key37 : MaskKey := ⟨0x37, 0xFA, 0x21, 0x3D⟩

/-! ### Well-formedness: what each check refuses -/

/-- A set reserved bit (R65). -/
theorem test_wf_refuses_rsv : (WireFrame.mk true 4 1 none .len7 []).wf = false := by decide

/-- 126 bytes in the 7-bit form (R57: 126 is an escape). -/
theorem test_wf_refuses_long_len7 (p : List Byte) (h : p.length = 126) :
    (WireFrame.mk true 0 2 none .len7 p).wf = false := by
  simp [WireFrame.wf, WireFrame.rsvClear, WireFrame.lengthFits, Config.lenDirectMax, h]

/-- 65536 bytes in the 16-bit form (R61). -/
theorem test_wf_refuses_long_len16 (p : List Byte) (h : p.length = 65536) :
    (WireFrame.mk true 0 2 none .len16 p).wf = false := by
  simp [WireFrame.wf, WireFrame.rsvClear, WireFrame.lengthFits, h]

/-- 2^63 bytes in the 64-bit form (R86). -/
theorem test_wf_refuses_long_len64 (p : List Byte) (h : p.length = 2 ^ 63) :
    (WireFrame.mk true 0 2 none .len64 p).wf = false := by
  simp [WireFrame.wf, WireFrame.rsvClear, WireFrame.lengthFits, Config.maxAcceptedLen, h]

/-- 125 bytes fit the 7-bit form (V34). -/
theorem test_wf_accepts_125 (p : List Byte) (h : p.length = 125) : (WireFrame.mk true 0 2 none .len7 p).wf = true := by
  simp [WireFrame.wf, WireFrame.rsvClear, WireFrame.lengthFits, Config.lenDirectMax, h]

/-- A non-minimal form is well formed (R62, V38). -/
theorem test_wf_accepts_nonminimal : (WireFrame.mk true 0 1 (some key37) .len16 [0x48]).wf = true := by decide

/-! ### Decoding: a header written out bit by bit for every constructor (R57, R58, R63) -/

theorem test_decode_cont : decode [0b00000000, 0b00000010] = .ok (.cont false false 2, []) := rfl
theorem test_decode_text : decode [0b10000001, 0b10000101] = .ok (.text true true 5, []) := rfl
theorem test_decode_binary : decode [0b10000010, 0b01111110] = .ok (.binary true false 126, []) := rfl
theorem test_decode_rsvd3 : decode [0b10000011, 0b00000000] = .ok (.rsvd3 true false 0, []) := rfl
theorem test_decode_rsvd4 : decode [0b00000100, 0b10000001] = .ok (.rsvd4 false true 1, []) := rfl
theorem test_decode_rsvd5 : decode [0b10000101, 0b01111101] = .ok (.rsvd5 true false 125, []) := rfl
theorem test_decode_rsvd6 : decode [0b00000110, 0b11111111] = .ok (.rsvd6 false true 127, []) := rfl
theorem test_decode_rsvd7 : decode [0b00000111, 0b00000010] = .ok (.rsvd7 false false 2, []) := rfl
theorem test_decode_close : decode [0b10001000, 0b00000010] = .ok (.close true false 2, []) := rfl
theorem test_decode_ping : decode [0b10001001, 0b10000000] = .ok (.ping true true 0, []) := rfl
theorem test_decode_pong : decode [0b10001010, 0b00000001] = .ok (.pong true false 1, []) := rfl
theorem test_decode_rsvdB : decode [0b10001011, 0b00000001] = .ok (.rsvdB true false 1, []) := rfl
theorem test_decode_rsvdC : decode [0b00001100, 0b00000100] = .ok (.rsvdC false false 4, []) := rfl
theorem test_decode_rsvdD : decode [0b10001101, 0b10100000] = .ok (.rsvdD true true 32, []) := rfl
theorem test_decode_rsvdE : decode [0b00001110, 0b01000000] = .ok (.rsvdE false false 64, []) := rfl
theorem test_decode_rsvdF : decode [0b00001111, 0b00000001] = .ok (.rsvdF false false 1, []) := rfl

/-- Byte 1 is not read (V50). -/
theorem test_decode_rsv1 : decode [0b11000001, 0b00000001] = .ok (.rsv1Set true false false 1, [0b00000001]) := rfl

/-- V51. -/
theorem test_decode_rsv2 : decode [0b10100001] = .ok (.rsv2Set true false 1, []) := rfl

/-- V52. -/
theorem test_decode_rsv3 : decode [0b10010001] = .ok (.rsv3Set true 1, []) := rfl

/-- RSV wins over a reserved opcode, all three bits carried (V53). -/
theorem test_decode_rsv_all : decode [0b11110011] = .ok (.rsv1Set true true true 3, []) := rfl

theorem test_decode_unmask :
    decodeCode (.port (.unmask key37 2 [0, 0, 0])) = .ok (.unmask key37 2 [0, 0, 0], []) := rfl
theorem test_decode_decodeFrame : decodeCode (.port .decodeFrame) = .ok (.decodeFrame, []) := rfl
theorem test_decode_readMessage : decodeCode (.port .readMessage) = .ok (.readMessage, []) := rfl

/-- One byte with clear reserved bits is no instruction yet, nor is none. -/
theorem test_decode_short : decode [] = .error .noByte0 ∧ decode [0x81] = .error .noByte1 := ⟨rfl, rfl⟩

/-- The table's numbering: bit 15 of the word is `FIN` (R58). -/
theorem test_table_word :
    decodeTableWord 16 0x8185 = some (.text true true 5) ∧ decodeTableWord 16 0x0000 = some (.cont false false 0) ∧
    decodeTableWord 16 0xC100 = some (.rsv1Set true false false 1) := ⟨rfl, rfl, rfl⟩

/-! ### The units -/

/-- V1. -/
theorem test_unm_hello : unm key37 0 [0x48, 0x65, 0x6C, 0x6C, 0x6F] = ([0x7F, 0x9F, 0x4D, 0x51, 0x58], 1) := by decide

/-- V10: the key stream from offset 3. -/
theorem test_unm_keystream :
    unm ⟨1, 2, 3, 4⟩ 3 [0, 0, 0, 0, 0, 0] = ([0x04, 0x01, 0x02, 0x03, 0x04, 0x01], 1) := by decide

/-- V27, V29d. -/
theorem test_extractors : hx0 0xC1 = ⟨true, 0b100, 1⟩ ∧ hx1 0xFE = ⟨true, 126⟩ := by decide

/-- R85's example: `7F 00 00 00 00 00 01 00 00` gives 65536. -/
theorem test_be64 : be64 [0, 0, 0, 0, 0, 1, 0, 0] = 65536 := by decide

/-- V55: 2^64 − 1. -/
theorem test_be64_max : be64 [255, 255, 255, 255, 255, 255, 255, 255] = 2 ^ 64 - 1 := by decide

/-- R116: the numeric codes. -/
theorem test_error_codes :
    [ErrKind.transport ⟨0⟩, .protocolRsv 4, .protocolOpcode true 3, .close, .limit].map (·.code) = [1, 2, 3, 4, 5] := by
  decide

/-- R59, R60: the masked 64-bit format has 14 header bytes. -/
theorem test_format : formatOf 127 true = .e64m ∧ Format.e64m.headerBytes = 14 := by decide

/-! ### Single steps, with the values of 95_test_vectors.md -/

/-- V2. -/
theorem test_exec_unmask :
    (next? (exec (.unmask key37 2 [0, 0, 0]) base)).map (·.delivered) = some [.unmasked [0x21, 0x3D, 0x37] 1] := by
  decide

/-- V94: UNMASK during a READ_MESSAGE. -/
theorem test_exec_unmask_concurrent : fault? (exec (.unmask key37 0 []) (reading .fdPay)) = some .concurrent := by decide

theorem test_exec_decodeFrame :
    (next? (exec .decodeFrame base)).map (fun t => (t.seq, t.cmd)) = some (.fdH0, .decodeFrame) := by decide

/-- V93. -/
theorem test_exec_decodeFrame_closed :
    fault? (exec .decodeFrame { base with closed := true }) = some .callAfterClose := by decide

theorem test_exec_readMessage :
    (next? (exec .readMessage { base with acc := [1], msgOp := 2, fcnt := 100 })).map
      (fun t => (t.seq, t.cmd, t.acc, t.msgOp, t.fcnt)) = some (.fdH0, .readMessage, [], 0, 0) := by decide

/-- V93. -/
theorem test_exec_readMessage_closed :
    fault? (exec .readMessage { base with closed := true }) = some .callAfterClose := by decide

/-- V68: a lone final continuation. -/
theorem test_exec_cont_alone :
    (next? (exec (.cont true false 2) (dispatching [] [0x58, 0x59] 0 0))).map (fun t => (t.res, t.seq)) =
      some (.message 0 [0x58, 0x59], .done) := by decide

/-- V61: the last fragment. -/
theorem test_exec_cont_last :
    (next? (exec (.cont true false 2) (dispatching [0x41, 0x42, 0x43, 0x44] [0x45, 0x46] 1 2))).map
      (fun t => (t.res, t.fcnt)) = some (.message 1 [0x41, 0x42, 0x43, 0x44, 0x45, 0x46], 2) := by decide

/-- V60. -/
theorem test_exec_text_fast :
    (next? (exec (.text true false 1) (dispatching [] [0x41] 0 0))).map (fun t => (t.res, t.msgOp, t.acc)) =
      some (.message 1 [0x41], 0, []) := by decide

/-- V61: the first fragment. -/
theorem test_exec_text_fragment :
    (next? (exec (.text false false 2) (dispatching [] [0x41, 0x42] 0 0))).map
      (fun t => (t.seq, t.acc, t.msgOp, t.fcnt)) = some (.fdH0, [0x41, 0x42], 1, 1) := by decide

/-- V80 under `overwrite`. -/
theorem test_exec_binary_overwrite :
    (next? (exec (.binary true false 1) (dispatching [0x41] [0x42] 1 1))).map (·.res) =
      some (.message 2 [0x41, 0x42]) := by decide

/-- V80 under `keep_first`. -/
theorem test_exec_binary_keepFirst :
    (next? (exec (.binary true false 1) (keepFirst (dispatching [0x41] [0x42] 1 1)))).map (·.res) =
      some (.message 1 [0x41, 0x42]) := by decide

/-- V100: the hundredth ping is tolerated. -/
theorem test_exec_ping_100 :
    (next? (exec (.ping true false 0) (dispatching [] [] 0 99))).map (fun t => (t.seq, t.fcnt)) =
      some (.fdH0, 100) := by decide

/-- V101: the 101st is not. -/
theorem test_exec_ping_101 :
    (next? (exec (.ping true false 0) (dispatching [] [] 0 100))).map (fun t => (t.res, t.fcnt)) =
      some (.err .limit, 101) := by decide

/-- V66: a pong inside a message. -/
theorem test_exec_pong :
    (next? (exec (.pong true false 1) (dispatching [0x41] [0x78] 1 1))).map (fun t => (t.seq, t.acc, t.fcnt)) =
      some (.fdH0, [0x41], 2) := by decide

/-- V105: a close is not counted. -/
theorem test_exec_close :
    (next? (exec (.close true false 0) (dispatching [] [] 0 100))).map (fun t => (t.res, t.closed, t.fcnt)) =
      some (.err .close, true, 100) := by decide

/-- V75. -/
theorem test_exec_rsvd3 :
    (next? (exec (.rsvd3 true false 0) (dispatching [] [] 0 0))).map (fun t => (t.res, t.fcnt)) =
      some (.err (.protocolOpcode true 3), 0) := by decide
theorem test_exec_rsvd4 :
    (next? (exec (.rsvd4 false false 0) (dispatching [] [] 0 0))).map (·.res) =
      some (.err (.protocolOpcode false 4)) := by decide
theorem test_exec_rsvd5 :
    (next? (exec (.rsvd5 true false 0) (dispatching [] [] 0 0))).map (·.res) =
      some (.err (.protocolOpcode true 5)) := by decide
theorem test_exec_rsvd6 :
    (next? (exec (.rsvd6 false false 0) (dispatching [] [] 0 0))).map (·.res) =
      some (.err (.protocolOpcode false 6)) := by decide

/-- V76. -/
theorem test_exec_rsvd7 :
    (next? (exec (.rsvd7 false false 2) (dispatching [] [0x7A, 0x7A] 0 0))).map (·.res) =
      some (.err (.protocolOpcode false 7)) := by decide

/-- V77. -/
theorem test_exec_rsvdB :
    (next? (exec (.rsvdB true false 1) (dispatching [0x41, 0x42] [0x71] 1 1))).map (fun t => (t.res, t.fcnt)) =
      some (.err (.protocolOpcode true 11), 1) := by decide
theorem test_exec_rsvdC :
    (next? (exec (.rsvdC true false 0) (dispatching [] [] 0 0))).map (·.res) =
      some (.err (.protocolOpcode true 12)) := by decide
theorem test_exec_rsvdD :
    (next? (exec (.rsvdD false false 0) (dispatching [] [] 0 0))).map (·.res) =
      some (.err (.protocolOpcode false 13)) := by decide
theorem test_exec_rsvdE :
    (next? (exec (.rsvdE true false 0) (dispatching [] [] 0 0))).map (·.res) =
      some (.err (.protocolOpcode true 14)) := by decide
theorem test_exec_rsvdF :
    (next? (exec (.rsvdF false false 1) (dispatching [] [1] 0 0))).map (·.res) =
      some (.err (.protocolOpcode false 15)) := by decide

/-- V50, as a step: the byte after byte 0 is left in the stream. -/
theorem test_step_rsv1 :
    (next? (step { reading .fdH0 with answered := true, h0 := 0xC1, stream := [.byte 0x01] })).map
      (fun t => (t.res, t.stream)) = some (.err (.protocolRsv 0b100), [.byte 0x01]) := by decide

/-- V51. -/
theorem test_step_rsv2 :
    (next? (step { reading .fdH0 with answered := true, h0 := 0xA1 })).map (·.res) =
      some (.err (.protocolRsv 0b010)) := by decide

/-- V52. -/
theorem test_step_rsv3 :
    (next? (step { reading .fdH0 with answered := true, h0 := 0x91 })).map (·.res) =
      some (.err (.protocolRsv 0b001)) := by decide

/-- V54: 2^63 is refused. -/
theorem test_step_msbSet :
    refusal? (step { reading .fdX64 with answered := true, h1 := 0x7F, plen := 0x8000000000000000 }) =
      some .lenMsbSet := by decide

/-- V56: 2^63 − 1 is accepted, and the payload read asks for that many. -/
theorem test_step_largest :
    (next? (step { reading .fdX64 with answered := true, h1 := 0x7F, plen := 0x7FFFFFFFFFFFFFFF })).map (·.seq) =
      some .fdKey := by decide

/-- V59b: the direct length 5 against a capacity of 4. -/
theorem test_step_capacity :
    fault? (step (capped 4 { reading .fdH1 with answered := true, h1 := 0x05 })) = some .capacity := by decide

/-- V41: the key of an empty masked frame is read. -/
theorem test_step_key :
    (next? (step { reading .fdKey with h1 := 0x80, stream := [.byte 1, .byte 2, .byte 3, .byte 4] })).map
      (fun t => (t.key, t.seq)) = some (⟨1, 2, 3, 4⟩, .fdPay) := by decide

/-- V40: the payload is unmasked in place. -/
theorem test_step_unmask :
    (next? (step { reading .fdPay with
      answered := true, h1 := 0x85, key := key37, pbuf := [0x7F, 0x9F, 0x4D, 0x51, 0x58] })).map (·.pbuf) =
      some [0x48, 0x65, 0x6C, 0x6C, 0x6F] := by decide

/-! ### Witnesses: each statement's hypotheses are met -/

/-- Inv of a READ_MESSAGE that waits to read its payload, of the largest accepted length. -/
def atPayload : State :=
  { reading .fdPay with
    h0 := 0x82, h1 := 0x7F, plen := 0x7FFFFFFFFFFFFFFF,
    written := { h0 := true, h1 := true, plen := true, pbuf := false, key := false, acc := true, msgOp := true,
                 fcnt := true, res := false } }

/-- Inv of a READ_MESSAGE that waits for header byte 0. -/
def atStart : State :=
  { reading .fdH0 with
    written := { h0 := false, h1 := false, plen := false, pbuf := false, key := false, acc := true, msgOp := true,
                 fcnt := true, res := false } }

theorem atStart_inv : Inv atStart := by
  constructor <;> simp [atStart, reading, base, State.reset, State.usesH0, State.usesH1, State.usesPlen, State.usesKey,
    State.usesPbuf, State.usesCall, State.usesRes, Seq.afterH0, Seq.afterLength, Seq.afterH1, exceeds]

theorem atPayload_inv : Inv atPayload := by
  have hr : atPayload.rsv = 0 := by decide
  have hm : atPayload.masked = false := by decide
  have hl : atPayload.LengthResolved := ⟨by decide, by decide, by decide, rfl⟩
  constructor <;> (try simp only [hr, hl, hm, State.usesH0, State.usesH1, State.usesPlen, State.usesKey,
    State.usesPbuf, State.usesCall, State.usesRes]) <;>
    simp [atPayload, reading, base, State.reset, Seq.afterH0, Seq.afterH1, Seq.afterLength, exceeds]

/-- O1, at the first and the last index. -/
theorem witness_UnmaskingXorsEachByteWithItsKeyByte :
    [(0x48 : Byte), 0x65, 0x6C][0]? = some 0x48 ∧ [(0x48 : Byte), 0x65, 0x6C][2]? = some 0x6C := by decide

/-- O3: the chunks of V5 and V6. -/
theorem witness_UnmaskingTwiceRestoresTheBuffer :
    [[(0x7F : Byte), 0x9F, 0x4D], [0x51, 0x58]].flatten = (unm key37 0 [0x48, 0x65, 0x6C, 0x6C, 0x6F]).1 := by decide

/-- O4, O7, O8: idle, with and without the close signal. -/
theorem witness_idle :
    base.seq = .idle ∧ base.closed = false ∧ ({ base with closed := true }).seq = .idle := by decide

/-- O5: busy in the first and in the last state of a call. -/
theorem witness_CommandWhileBusyFaults :
    (reading .fdH0).seq ≠ .idle ∧ (reading .done).seq ≠ .idle ∧ (reading .fdH0).live = true ∧
    ({ reading .done with host := [.issue .decodeFrame] }).host = .issue .decodeFrame :: [] := by decide

/-- O6. -/
theorem witness_CallAfterCloseFaults :
    ({ base with closed := true }).seq = .idle ∧ ({ base with closed := true }).closed = true := by decide

/-- O9: a polite host, and a step it makes. -/
theorem witness_PoliteHostNeverOverlapsCommands :
    Polite ({ base with host := [.whenIdle .readMessage, .pass, .whenIdle .decodeFrame] }).host ∧
    ∃ t, step { base with host := [.whenIdle .readMessage, .pass, .whenIdle .decodeFrame] } = .next t :=
  ⟨fun c => by simp, _, rfl⟩

/-- O12: the widest operands. -/
theorem witness_DecodingAnEncodingGivesTheInstruction :
    (Instr.rsvdF true true 127).wf = true ∧ encode (.rsvdF true true 127) = .wire [0x8F, 0xFF] ∧
    encode (.rsv1Set true true true 15) = .wire [0xFF] := ⟨rfl, rfl, rfl⟩

/-- O13: a header and a reserved-bit byte, each with bytes after it. -/
theorem witness_EncodingADecodingGivesTheBytes :
    decode [0x8F, 0xFF, 0x00] = .ok (.rsvdF true true 127, [0x00]) ∧
    decode [0x90, 0x00] = .ok (.rsv3Set true 0, [0x00]) := ⟨rfl, rfl⟩

/-- O15: the lowest and the highest header word. -/
theorem witness_PlacedTableWordRunsNext :
    decodeTableWord 16 0x0000 = some (.cont false false 0) ∧
    decodeTableWord 16 0xFFFF = some (.rsv1Set true true true 15) := ⟨rfl, rfl⟩

/-- O16, each clause. -/
theorem witness_StepRunsTheDecodedInstruction :
    base.live = true ∧ ({ base with host := [.issue .readMessage] }).host = .issue .readMessage :: [] ∧
    ({ base with host := [.whenIdle .readMessage] }).host = .whenIdle .readMessage :: [] ∧
    ({ reading .fdH0 with answered := true, h0 := 0xC1 }).turn = .quiet [] ∧
    decode [({ reading .fdH0 with answered := true, h0 := 0xC1 }).h0] = .ok (.rsv1Set true false false 1, []) ∧
    ({ reading .mrDispatch with h0 := 0x81, h1 := 0x01 }).turn = .quiet [] ∧
    decode [({ reading .mrDispatch with h0 := 0x81, h1 := 0x01 }).h0,
      ({ reading .mrDispatch with h0 := 0x81, h1 := 0x01 }).h1] = .ok (.text true false 1, []) :=
  ⟨rfl, rfl, rfl, rfl, rfl, rfl, rfl⟩

/-- O18, the six reads; the payload read at its least length. -/
theorem witness_AnsweredReadsLatchTheirRegister :
    (reading .fdH0).pendingRead = some 1 ∧ (reading .fdH1).pendingRead = some 1 ∧
    (reading .fdX16).pendingRead = some 2 ∧ (reading .fdX64).pendingRead = some 8 ∧
    ({ reading .fdKey with h1 := 0x80 }).pendingRead = some 4 ∧ ({ reading .fdPay with plen := 1 }).pendingRead = some 1 ∧
    streamRead 1 [.byte 7] = .data [7] [] ∧ streamRead 2 [.byte 1, .byte 2, .byte 3] = .data [1, 2] [.byte 3] ∧
    streamRead 4 (streamOf [1, 2, 3, 4]) = .data [1, 2, 3, 4] [] ∧
    streamRead 8 (streamOf [1, 2, 3, 4, 5, 6, 7, 8]) = .data [1, 2, 3, 4, 5, 6, 7, 8] [] ∧
    (reading .fdH0).live = true ∧ (reading .fdH0).turn = .quiet [] := by decide

/-- O19: an error at once, and one after a byte. -/
theorem witness_ReadErrorEndsTheCommand :
    (reading .fdH0).pendingRead = some 1 ∧ streamRead 1 [.err ⟨5⟩] = .error ⟨5⟩ [] ∧
    (reading .fdX16).pendingRead = some 2 ∧ streamRead 2 [.byte 1, .err ⟨5⟩, .byte 2] = .error ⟨5⟩ [.byte 2] ∧
    (reading .fdX16).live = true ∧ (reading .fdX16).turn = .quiet [] := by decide

/-- O20. -/
theorem witness_UnansweredReadHoldsEveryRegister :
    Waiting { reading .fdX16 with stream := [.byte 1] } ∧ (reading .fdX16).live = true ∧
    (reading .fdX16).turn = .quiet [] := ⟨⟨2, rfl, rfl⟩, rfl, rfl⟩

/-- O21, both clauses. -/
theorem witness_ReservedBitsEndTheCommandAtByteZero :
    ({ reading .fdH0 with answered := true, h0 := 0x90 }).rsv ≠ 0 ∧
    ({ reading .fdH0 with answered := true, h0 := 0x8F }).rsv = 0 ∧
    ({ reading .fdH0 with answered := true, h0 := 0x90 }).turn = .quiet [] ∧ (reading .fdH0).live = true := by decide

/-- O23, each clause at its boundary. -/
theorem witness_LengthIsResolvedByItsForm :
    ({ reading .fdH1 with answered := true, h1 := 0x7D }).len7.toNat = 125 ∧
    exceeds (capped 125 (reading .fdH1)).params.accCap 125 = false ∧
    exceeds (capped 124 (reading .fdH1)).params.accCap 125 = true ∧
    ({ reading .fdH1 with answered := true, h1 := 0xFE }).len7.toNat = 126 ∧
    ({ reading .fdH1 with answered := true, h1 := 0xFF }).len7.toNat = 127 ∧
    2 ^ 63 ≤ ({ reading .fdX64 with answered := true, plen := 0x8000000000000000 }).plen.toNat ∧
    atPayload.plen.toNat < 2 ^ 63 ∧ exceeds (capped 0 atPayload).params.accCap atPayload.plen.toNat = true ∧
    exceeds atPayload.params.accCap atPayload.plen.toNat = false ∧
    (reading .fdX16).live = true ∧ (reading .fdX64).turn = .quiet [] ∧ (reading .fdH1).turn = .quiet [] := by decide

/-- O24, both clauses; the empty payload masked. -/
theorem witness_UnneededReadsAreSkipped :
    (reading .fdKey).masked = false ∧ ({ reading .fdPay with h1 := 0x80 }).plen = 0 ∧
    ({ reading .fdPay with h1 := 0x80 }).answered = false ∧ (reading .fdKey).turn = .quiet [] := by decide

/-- O25, both clauses. -/
theorem witness_PayloadIsUnmaskedFromOffsetZero :
    ({ reading .fdPay with answered := true, h1 := 0x81 }).masked = true ∧
    ({ reading .fdPay with answered := true, h1 := 0x01 }).masked = false ∧
    ({ reading .fdPay with answered := true }).turn = .quiet [] := by decide

/-- O26, both clauses. -/
theorem witness_CompleteFrameIsReturnedOrDispatched :
    (reading .fdEnd).cmd = .readMessage ∧ ({ reading .fdEnd with cmd := .decodeFrame }).cmd = .decodeFrame ∧
    (reading .fdEnd).turn = .quiet [] ∧ (reading .fdEnd).live = true := by decide

/-- O27, at the least and at the largest request. -/
theorem witness_ReadRequestsAreInRange :
    (Inv atStart ∧ atStart.pendingRead = some 1) ∧ Inv atPayload ∧ atPayload.pendingRead = some (2 ^ 63 - 1) :=
  ⟨⟨atStart_inv, rfl⟩, atPayload_inv, by decide⟩

/-- O28: a step that reads. -/
theorem witness_StreamIsConsumedOnlyByReads :
    ∃ t, step { reading .fdH0 with stream := [.byte 0x81] } = .next t ∧ t.stream = [] := ⟨_, rfl, rfl⟩

/-- O29. -/
theorem witness_WaitingResultIsDelivered :
    (reading .done).seq = .done ∧ (reading .done).live = true ∧ (reading .done).turn = .quiet [] := by decide

/-- O30. -/
theorem witness_FastPathReturnsTheFrame : (dispatching [] [0x41] 0 0).acc = [] := by decide

/-- O31, each clause; the capacity reached exactly. -/
theorem witness_FinalFragmentReturnsTheMessage :
    (dispatching [0x41] [0x42] 1 1).acc ≠ [] ∧
    exceeds (capped 2 (dispatching [0x41] [0x42] 1 1)).params.accCap (1 + 1) = false ∧
    (dispatching [0x41] [0x42] 1 1).params.recordPolicy = .overwrite ∧
    (keepFirst (dispatching [0x41] [0x42] 0 1)).msgOp = 0 ∧
    (keepFirst (dispatching [0x41] [0x42] 1 1)).params.recordPolicy = .keepFirst ∧
    (keepFirst (dispatching [0x41] [0x42] 1 1)).msgOp ≠ 0 := by decide

/-- O32, both clauses at the boundary of the cap. -/
theorem witness_FragmentIsAppendedAndCounted :
    (dispatching [] [0x41] 0 99).fcnt.toNat < 100 ∧ (dispatching [] [0x41] 0 100).fcnt.toNat = 100 ∧
    exceeds (dispatching [] [0x41] 0 99).params.accCap (0 + 1) = false := by decide

/-- O33, for a final and for a non-final frame. -/
theorem witness_AppendBeyondCapacityFaults :
    (capped 1 (dispatching [0x41] [0x42] 1 1)).params.accCap = some 1 ∧ 1 < [(0x41 : Byte)].length + [(0x42 : Byte)].length ∧
    (capped 1 (dispatching [0x41] [0x42] 1 1)).acc ≠ [] := by decide

/-- O34, both clauses at the boundary of the cap. -/
theorem witness_PingAndPongOnlyCount :
    (dispatching [] [] 0 99).fcnt.toNat < 100 ∧ (dispatching [] [] 0 100).fcnt.toNat = 100 := by decide

/-- O37, each clause at the boundary values of its opcodes. -/
theorem witness_DispatchClassifiesTheOpcode :
    ({ reading .mrDispatch with h0 := 0x80 }).opc = 0 ∧ ({ reading .mrDispatch with h0 := 0x02 }).opc = 2 ∧
    ({ reading .mrDispatch with h0 := 0x89 }).opc = 9 ∧ ({ reading .mrDispatch with h0 := 0x8A }).opc = 10 ∧
    ({ reading .mrDispatch with h0 := 0x88 }).opc = 8 ∧
    ({ reading .mrDispatch with h0 := 0x83 }).opc.toNat ∉ [0, 1, 2, 8, 9, 10] ∧
    ({ reading .mrDispatch with h0 := 0x87 }).opc.toNat ∉ [0, 1, 2, 8, 9, 10] ∧
    ({ reading .mrDispatch with h0 := 0x8B }).opc.toNat ∉ [0, 1, 2, 8, 9, 10] ∧
    ({ reading .mrDispatch with h0 := 0x8F }).opc.toNat ∉ [0, 1, 2, 8, 9, 10] ∧
    ({ reading .mrDispatch with h0 := 0x8F }).rsv = 0 ∧ (reading .mrDispatch).live = true ∧
    (reading .mrDispatch).turn = .quiet [] := by decide

/-- O38. -/
theorem witness_EmptyFirstFragmentStartsNothing :
    (dispatching [] [] 0 99).acc = [] ∧ (dispatching [] [] 0 99).pbuf = [] ∧ (dispatching [] [] 0 99).msgOp = 0 ∧
    (dispatching [] [] 0 99).fcnt.toNat < 100 := by decide

/-- O39: V64. -/
theorem witness_EmptyMessageComesFromTheFastPath :
    ∃ t, step { dispatching [] [] 0 0 with h0 := 0x82 } = .next t ∧ t.seq = .done ∧ t.res = .message 2 [] ∧
      ({ dispatching [] [] 0 0 with h0 := 0x82 }).rsv = 0 ∧ ({ dispatching [] [] 0 0 with h0 := 0x82 }).host = [] :=
  ⟨_, rfl, rfl, rfl, by decide, rfl⟩

/-- O40: 100 and 101 frames of each kind. -/
theorem witness_CallToleratesExactlyOneHundredFrames :
    base.ReadyForCall ∧ base.params.accCap = none ∧
    (∀ f ∈ List.replicate 100 [(0x89 : Byte), 0x00], f = [0x89, 0x00] ∨ f = [0x8A, 0x00] ∨ f = [0x00, 0x00]) ∧
    (List.replicate 100 [(0x89 : Byte), 0x00]).length ≤ 100 ∧
    (∀ f ∈ List.replicate 101 [(0x00 : Byte), 0x00], f = [0x89, 0x00] ∨ f = [0x8A, 0x00] ∨ f = [0x00, 0x00]) ∧
    (List.replicate 101 [(0x00 : Byte), 0x00]).length = 101 := by
  refine ⟨⟨rfl, rfl, rfl⟩, rfl, ?_, by simp, ?_, by simp⟩
  · intro f hf; exact .inl (List.eq_of_mem_replicate hf)
  · intro f hf; exact .inr (.inr (List.eq_of_mem_replicate hf))

/-- O43: a step from an invariant state. -/
theorem witness_StepKeepsTheInvariant : Inv atStart ∧ ∃ t, step { atStart with host := [.pass] } = .next t :=
  ⟨atStart_inv, _, rfl⟩

/-- O44, both clauses: a step after the close signal, and a close frame. -/
theorem witness_ClosedIsALatchOfTheCloseSignal :
    (∃ t, step { base with closed := true } = .next t ∧ t.closed = true) ∧
    ∃ t, step { dispatching [] [] 0 0 with h0 := 0x88 } = .next t ∧
      ({ dispatching [] [] 0 0 with h0 := 0x88 }).closed = false ∧ t.closed = true :=
  ⟨⟨_, rfl, rfl⟩, _, rfl, rfl, rfl⟩

/-- O45: a key read. -/
theorem witness_KeyIsWrittenOnlyByTheKeyRead :
    ∃ t, step { reading .fdKey with h1 := 0x80, stream := streamOf [1, 2, 3, 4] } = .next t ∧
      t.key ≠ (reading .fdKey).key := ⟨_, rfl, by decide⟩

/-- O46, each register. -/
theorem witness_FrameRegistersHaveOneWriterEach :
    (∃ t, step { reading .fdH0 with stream := [.byte 0x81] } = .next t ∧ t.h0 ≠ (reading .fdH0).h0) ∧
    (∃ t, step { reading .fdH1 with stream := [.byte 0x81] } = .next t ∧ t.h1 ≠ (reading .fdH1).h1) ∧
    (∃ t, step { reading .fdH1 with answered := true, h1 := 0x05 } = .next t ∧ t.plen ≠ (reading .fdH1).plen) ∧
    (∃ t, step { reading .fdPay with plen := 1, stream := [.byte 0x81] } = .next t ∧ t.pbuf ≠ (reading .fdPay).pbuf) :=
  ⟨⟨_, rfl, by decide⟩, ⟨_, rfl, by decide⟩, ⟨_, rfl, by decide⟩, ⟨_, rfl, by decide⟩⟩

/-- O47, each register, by the call reset and at the dispatch. -/
theorem witness_CallRegistersHaveTheirWriters :
    (∃ t, step { base with acc := [1], msgOp := 2, fcnt := 3, host := [.issue .readMessage] } = .next t ∧
      t.acc ≠ [1] ∧ t.msgOp ≠ 2 ∧ t.fcnt ≠ 3) ∧
    (∃ t, step { dispatching [] [0x41] 0 0 with h0 := 0x01 } = .next t ∧ t.acc ≠ [] ∧ t.msgOp ≠ 0 ∧ t.fcnt ≠ 0) :=
  ⟨⟨_, rfl, by decide, by decide, by decide⟩, ⟨_, rfl, by decide, by decide, by decide⟩⟩

/-- O48, by a delivery and by UNMASK. -/
theorem witness_ResultsReachTheHostOnce :
    (∃ t, step (reading .done) = .next t ∧ t.delivered ≠ (reading .done).delivered) ∧
    (∃ t, step { base with host := [.issue (.unmask key37 0 [])] } = .next t ∧ t.delivered ≠ base.delivered) :=
  ⟨⟨_, rfl, by decide⟩, ⟨_, rfl, by decide⟩⟩

/-- O49: two idle machines with everything left over different. -/
theorem witness_LeftOverRegistersAreNeverObserved :
    SameInUse base { base with h0 := 1, h1 := 1, plen := 1, pbuf := [1], key := key37, acc := [1], msgOp := 1, fcnt := 1,
                               res := .err .limit } := by
  constructor <;> simp [base, State.reset, State.usesH0, State.usesH1, State.usesPlen, State.usesKey, State.usesPbuf,
    State.usesCall, State.usesRes, Seq.afterH0, Seq.afterLength, Seq.afterH1]

/-- O51. -/
theorem witness_ParametersAreFixed : ∃ t, step base = .next t := ⟨_, rfl⟩

/-- O52: destroyed in the middle of a call. -/
theorem witness_DestroyedConnectionAcceptsNothing :
    ({ reading .fdPay with live := false, host := [.issue .readMessage] }).live = false := by decide

/-- O53. -/
theorem witness_QuietUnboundedRunIsSafe : (reading .fdPay).host = [] ∧ (reading .fdPay).params.accCap = none := by decide

/-- O54, O55. -/
theorem witness_ReadyForCall : base.ReadyForCall := ⟨rfl, rfl, rfl⟩

/-- O56, O57: each length form, masked and not, at an exact capacity. -/
theorem witness_SentFrameDecodesToItself :
    (WireFrame.mk true 0 1 none .len7 [0x48]).wf = true ∧ (WireFrame.mk false 0 9 (some key37) .len16 []).wf = true ∧
    (WireFrame.mk true 0 15 (some key37) .len64 [0x48]).wf = true ∧ exceeds (some 1) [(0x48 : Byte)].length = false := by
  decide

/-- O58. -/
theorem witness_SingleFrameMessageIsReturnedUnmodified :
    base.ReadyForCall ∧ (WireFrame.mk true 0 2 (some key37) .len64 [0x48]).wf = true ∧
    exceeds base.params.accCap 1 = false := ⟨⟨rfl, rfl, rfl⟩, by decide, rfl⟩

/-- O59. -/
theorem witness_CallEndsUnlessTheStreamWithholds :
    Inv atPayload ∧ atPayload.live = true ∧ atPayload.host = [] := ⟨atPayload_inv, rfl, rfl⟩

end Sys2Proof.Tests
end

namespace Sys2Proof.Machine

/-! ### What renaming the transport errors leaves unchanged

Only `RES`, the results delivered and the stream hold error values. The host's turn and the header that selects an
instruction are read from other fields, so a renamed state takes the same kind of step. -/

namespace State

variable (f : TransportError → TransportError) (s : State)

@[simp] theorem mapErr_seq : (s.mapErr f).seq = s.seq := rfl
@[simp] theorem mapErr_answered : (s.mapErr f).answered = s.answered := rfl
@[simp] theorem mapErr_cmd : (s.mapErr f).cmd = s.cmd := rfl
@[simp] theorem mapErr_h0 : (s.mapErr f).h0 = s.h0 := rfl
@[simp] theorem mapErr_h1 : (s.mapErr f).h1 = s.h1 := rfl
@[simp] theorem mapErr_plen : (s.mapErr f).plen = s.plen := rfl
@[simp] theorem mapErr_pbuf : (s.mapErr f).pbuf = s.pbuf := rfl
@[simp] theorem mapErr_key : (s.mapErr f).key = s.key := rfl
@[simp] theorem mapErr_closed : (s.mapErr f).closed = s.closed := rfl
@[simp] theorem mapErr_acc : (s.mapErr f).acc = s.acc := rfl
@[simp] theorem mapErr_msgOp : (s.mapErr f).msgOp = s.msgOp := rfl
@[simp] theorem mapErr_fcnt : (s.mapErr f).fcnt = s.fcnt := rfl
@[simp] theorem mapErr_written : (s.mapErr f).written = s.written := rfl
@[simp] theorem mapErr_live : (s.mapErr f).live = s.live := rfl
@[simp] theorem mapErr_host : (s.mapErr f).host = s.host := rfl
@[simp] theorem mapErr_params : (s.mapErr f).params = s.params := rfl
@[simp] theorem mapErr_fin : (s.mapErr f).fin = s.fin := rfl
@[simp] theorem mapErr_rsv : (s.mapErr f).rsv = s.rsv := rfl
@[simp] theorem mapErr_opc : (s.mapErr f).opc = s.opc := rfl
@[simp] theorem mapErr_masked : (s.mapErr f).masked = s.masked := rfl
@[simp] theorem mapErr_len7 : (s.mapErr f).len7 = s.len7 := rfl
@[simp] theorem mapErr_res : (s.mapErr f).res = s.res.mapErr f := rfl
@[simp] theorem mapErr_delivered : (s.mapErr f).delivered = s.delivered.map (Result.mapErr f) := rfl
@[simp] theorem mapErr_stream : (s.mapErr f).stream = s.stream.map (StreamItem.mapErr f) := rfl
@[simp] theorem mapErr_turn : (s.mapErr f).turn = s.turn := rfl
@[simp] theorem mapErr_headerInstr : (s.mapErr f).headerInstr = s.headerInstr := rfl

/-! ### Renaming the transport errors after a register write -/

@[simp] theorem goto_mapErr (q : Seq) : (s.goto q).mapErr f = (s.mapErr f).goto q := rfl
@[simp] theorem setAnswered_mapErr : s.setAnswered.mapErr f = (s.mapErr f).setAnswered := rfl
@[simp] theorem setCmd_mapErr (c : Cmd) : (s.setCmd c).mapErr f = (s.mapErr f).setCmd c := rfl
@[simp] theorem setH0_mapErr (b : Byte) : (s.setH0 b).mapErr f = (s.mapErr f).setH0 b := rfl
@[simp] theorem setH1_mapErr (b : Byte) : (s.setH1 b).mapErr f = (s.mapErr f).setH1 b := rfl
@[simp] theorem setPlen_mapErr (n : Nat) : (s.setPlen n).mapErr f = (s.mapErr f).setPlen n := rfl
@[simp] theorem setPbuf_mapErr (p : List Byte) : (s.setPbuf p).mapErr f = (s.mapErr f).setPbuf p := rfl
@[simp] theorem setKey_mapErr (k : MaskKey) : (s.setKey k).mapErr f = (s.mapErr f).setKey k := rfl
@[simp] theorem setClosed_mapErr : s.setClosed.mapErr f = (s.mapErr f).setClosed := rfl
@[simp] theorem setAcc_mapErr (a : List Byte) : (s.setAcc a).mapErr f = (s.mapErr f).setAcc a := rfl
@[simp] theorem setMsgOp_mapErr (o : BitVec 4) : (s.setMsgOp o).mapErr f = (s.mapErr f).setMsgOp o := rfl
@[simp] theorem setFcnt_mapErr (n : BitVec 7) : (s.setFcnt n).mapErr f = (s.mapErr f).setFcnt n := rfl
@[simp] theorem setHost_mapErr (ms : List HostMove) : (s.setHost ms).mapErr f = (s.mapErr f).setHost ms := rfl
@[simp] theorem destroy_mapErr : s.destroy.mapErr f = (s.mapErr f).destroy := rfl
@[simp] theorem setRes_mapErr (r : Result) : (s.setRes r).mapErr f = (s.mapErr f).setRes (r.mapErr f) := rfl
@[simp] theorem setStream_mapErr (items : List StreamItem) :
    (s.setStream items).mapErr f = (s.mapErr f).setStream (items.map (StreamItem.mapErr f)) := rfl
@[simp] theorem deliverToHost_mapErr (r : Result) :
    (s.deliverToHost r).mapErr f = (s.mapErr f).deliverToHost (r.mapErr f) := by
  simp [deliverToHost, mapErr]

end State

section Renaming

variable (f : TransportError → TransportError)

@[simp] theorem mapErrOutcome_next (s : State) : mapErrOutcome f (.next s) = .next (s.mapErr f) := rfl
@[simp] theorem mapErrOutcome_fault (r : Fault) : mapErrOutcome f (.fault r) = .fault r := rfl
@[simp] theorem mapErrOutcome_refused (r : Refusal) : mapErrOutcome f (.refused r) = .refused r := rfl

/-! ### The shared operations commute with the renaming -/

@[simp] theorem raise_mapErr (k : ErrKind) (s : State) :
    (raise k s).mapErr f = raise (k.mapErr f) (s.mapErr f) := rfl

@[simp] theorem returnResult_mapErr (r : Result) (s : State) :
    (returnResult r s).mapErr f = returnResult (r.mapErr f) (s.mapErr f) := rfl

@[simp] theorem deliver_mapErr (s : State) : (deliver s).mapErr f = deliver (s.mapErr f) := by
  simp [deliver]

@[simp] theorem recordOp_mapErr (opc : BitVec 4) (s : State) :
    (recordOp opc s).mapErr f = recordOp opc (s.mapErr f) :=
  apply_ite (State.mapErr f) ..

@[simp] theorem countFrame_mapErr (s : State) : (countFrame s).mapErr f = countFrame (s.mapErr f) :=
  apply_ite (State.mapErr f) ..

/-- The error values of a stream's answer, renamed. -/
def ReadAnswer.mapErr : ReadAnswer → ReadAnswer
  | .data bs rest => .data bs (rest.map (StreamItem.mapErr f))
  | .error e rest => .error (f e) (rest.map (StreamItem.mapErr f))
  | .noAnswer => .noAnswer

/-- The stream's answer depends on where its errors stand, not on which they are (R34, R47). -/
theorem streamRead_mapErr (n : Nat) (items : List StreamItem) :
    streamRead n (items.map (StreamItem.mapErr f)) = (streamRead n items).mapErr f := by
  induction items generalizing n with
  | nil => cases n <;> rfl
  | cons item items ih =>
    cases n with
    | zero => simp [ReadAnswer.mapErr]
    | succ n =>
      cases item with
      | err e => rfl
      | byte b =>
        simp only [List.map_cons, StreamItem.mapErr, streamRead_succ_byte, ih]
        cases streamRead n items <;> rfl

/-- A read transaction commutes with the renaming when what it does with data does (R92, R117). -/
theorem readThen_mapErr {k : List Byte → State → State}
    (hk : ∀ bs s, (k bs s).mapErr f = k bs (s.mapErr f)) (n : Nat) (s : State) :
    readThen n (s.mapErr f) k = mapErrOutcome f (readThen n s k) := by
  simp only [readThen, State.mapErr_stream, streamRead_mapErr]
  cases streamRead n s.stream <;> simp [ReadAnswer.mapErr, hk, ErrKind.mapErr]

/-- An acceptance commutes with the renaming when the accepted command's effect does. -/
theorem acceptThen_mapErr {k : State → State} (hk : ∀ s, (k s).mapErr f = k (s.mapErr f)) (s : State) :
    acceptThen (s.mapErr f) k = mapErrOutcome f (acceptThen s k) := by
  by_cases hs : s.seq = .idle
  · cases hc : s.closed <;> simp [acceptThen, hs, hc, hk]
  · simp [acceptThen, hs]

theorem dataFrame_mapErr (opc : BitVec 4) (fin : Bool) (s : State) :
    dataFrame opc fin (s.mapErr f) = mapErrOutcome f (dataFrame opc fin s) := by
  have ht : recordOp opc ((s.mapErr f).setAcc (s.acc ++ s.pbuf)) =
      (recordOp opc (s.setAcc (s.acc ++ s.pbuf))).mapErr f := by simp
  simp only [dataFrame, State.mapErr_acc, State.mapErr_pbuf, State.mapErr_params, ht, State.mapErr_msgOp]
  split_ifs <;> simp [Result.mapErr]

/-! ### Every instruction and every step commutes with the renaming -/

theorem execUnmask_mapErr (key : MaskKey) (ofs : BitVec 2) (data : List Byte) (s : State) :
    execUnmask key ofs data (s.mapErr f) = mapErrOutcome f (execUnmask key ofs data s) := by
  by_cases h : s.seq = .idle <;> simp [execUnmask, h, Result.mapErr]

theorem execDecodeFrame_mapErr (s : State) :
    execDecodeFrame (s.mapErr f) = mapErrOutcome f (execDecodeFrame s) :=
  acceptThen_mapErr f (by intros; rfl) s

theorem execReadMessage_mapErr (s : State) :
    execReadMessage (s.mapErr f) = mapErrOutcome f (execReadMessage s) :=
  acceptThen_mapErr f (by intros; rfl) s

theorem exec_mapErr (i : Instr) (s : State) : exec i (s.mapErr f) = mapErrOutcome f (exec i s) := by
  cases i with
  | cont fin => exact dataFrame_mapErr f 0 fin s
  | text fin => exact dataFrame_mapErr f 1 fin s
  | binary fin => exact dataFrame_mapErr f 2 fin s
  | ping | pong => exact congrArg Host.Outcome.next (countFrame_mapErr f s).symm
  | unmask key ofs data => exact execUnmask_mapErr f key ofs data s
  | decodeFrame => exact execDecodeFrame_mapErr f s
  | readMessage => exact execReadMessage_mapErr f s
  | _ => rfl

theorem checkLength_mapErr (s : State) : checkLength (s.mapErr f) = mapErrOutcome f (checkLength s) := by
  simp only [checkLength, State.mapErr_params, State.mapErr_plen]
  cases lenVerdict s.params.accCap s.plen <;> rfl

theorem resolveLength_mapErr (s : State) : resolveLength (s.mapErr f) = mapErrOutcome f (resolveLength s) := by
  simp only [resolveLength, State.mapErr_len7]
  cases lenSource s.len7 with
  | direct => exact checkLength_mapErr f (s.setPlen s.len7.toNat)
  | ext16 | ext64 => rfl

theorem readKey_mapErr (s : State) : readKey (s.mapErr f) = mapErrOutcome f (readKey s) := by
  by_cases h : s.masked = true
  · simp only [readKey, State.mapErr_masked, h, if_true]
    exact readThen_mapErr f (by intros; rfl) _ s
  · simp [readKey, h]

theorem readPayload_mapErr (s : State) : readPayload (s.mapErr f) = mapErrOutcome f (readPayload s) := by
  by_cases h : 0 < s.plen.toNat
  · simp only [readPayload, State.mapErr_plen, h, if_true]
    exact readThen_mapErr f (by intros; rfl) _ s
  · simp [readPayload, h]

theorem unmaskPayload_mapErr (s : State) : unmaskPayload (s.mapErr f) = mapErrOutcome f (unmaskPayload s) := by
  by_cases h : s.masked = true <;> simp [unmaskPayload, h]

theorem endFrame_mapErr (s : State) : endFrame (s.mapErr f) = mapErrOutcome f (endFrame s) := by
  simp only [endFrame, State.mapErr_cmd]
  cases s.cmd <;> rfl

theorem sequencerStep_mapErr (s : State) : sequencerStep (s.mapErr f) = mapErrOutcome f (sequencerStep s) := by
  unfold sequencerStep
  simp only [State.mapErr_seq, State.mapErr_answered]
  split
  · rfl
  · exact readThen_mapErr f (by intros; rfl) 1 s
  · rfl
  · exact readThen_mapErr f (by intros; rfl) 1 s
  · exact resolveLength_mapErr f s
  · exact readThen_mapErr f (by intros; rfl) 2 s
  · exact checkLength_mapErr f s
  · exact readThen_mapErr f (by intros; rfl) 8 s
  · exact checkLength_mapErr f s
  · exact readKey_mapErr f s
  · exact readPayload_mapErr f s
  · exact unmaskPayload_mapErr f s
  · exact endFrame_mapErr f s
  · rfl
  · exact congrArg Host.Outcome.next (deliver_mapErr f s).symm

theorem advance_mapErr (s : State) : advance (s.mapErr f) = mapErrOutcome f (advance s) := by
  simp only [advance, State.mapErr_headerInstr]
  cases s.headerInstr with
  | some i => exact exec_mapErr f i s
  | none => exact sequencerStep_mapErr f s

/-- One step after the renaming is the renaming after one step. -/
theorem step_mapErr (s : State) : step (s.mapErr f) = mapErrOutcome f (step s) := by
  simp only [step, takeStep, State.mapErr_live, State.mapErr_turn, ← State.setHost_mapErr]
  cases s.live with
  | false => cases s.turn <;> rfl
  | true =>
    cases s.turn with
    | command c rest => exact exec_mapErr f c.toInstr (s.setHost rest)
    | destroy rest => rfl
    | quiet rest => exact advance_mapErr f (s.setHost rest)

end Renaming

/-- Settles O50, by induction on the number of steps: one step commutes with the renaming (`step_mapErr`). -/
theorem transportErrorsAreNeverInspected : Obligations.TransportErrorsAreNeverInspected := by
  intro f k s
  induction k generalizing s with
  | zero => rfl
  | succ k ih =>
    simp only [run_succ, step_mapErr]
    cases step s with
    | next t => exact ih t
    | fault r | refused r => rfl

/-! ### The parameters -/

/-- The block's own step writes no parameter (R29): each of its ways is a chain of register writes. -/
theorem BlockStep.params_eq {s t : State} (h : BlockStep s t) : t.params = s.params := by
  cases h <;> simp

theorem Accepted.params_eq {s t : State} {c : Command} (h : Accepted s c t) : t.params = s.params := by
  cases h <;> rfl

/-- Settles O51, by the cases of a step: a command's acceptance and the block's own step keep the parameters. -/
theorem parametersAreFixed : Obligations.ParametersAreFixed := by
  intro s t h
  rcases step_next h with ⟨-, ms, rfl⟩ | ⟨-, c, ms, -, ha⟩ | ⟨-, ms, -, rfl⟩ | ⟨-, ms, -, hb⟩
  · rfl
  · exact ha.params_eq
  · rfl
  · exact hb.params_eq

end Sys2Proof.Machine

namespace Sys2Proof.Machine

/-! ### The stream's answers -/

/-- Data answers a read exactly with the next `n` bytes of the stream (R35). -/
theorem streamRead_data {n : Nat} {items rest : List StreamItem} {bs : List Byte}
    (h : streamRead n items = .data bs rest) : items = streamOf bs ++ rest ∧ bs.length = n := by
  induction items generalizing n bs with
  | nil =>
    cases n with
    | zero => cases h; exact ⟨rfl, rfl⟩
    | succ n => cases h
  | cons item items ih =>
    cases n with
    | zero =>
      rw [streamRead_zero] at h
      cases h
      exact ⟨rfl, rfl⟩
    | succ n =>
      cases item with
      | err e => cases h
      | byte b =>
        rw [streamRead_succ_byte] at h
        split at h
        · rename_i bs' rest' hr
          cases h
          obtain ⟨hi, hl⟩ := ih hr
          exact ⟨by rw [hi]; rfl, by rw [List.length_cons, hl]⟩
        · cases h
        · cases h

@[simp] theorem unmBytes_length (key : MaskKey) (ofs : BitVec 2) (buf : List Byte) :
    (unmBytes key ofs buf).length = buf.length := by
  induction buf generalizing ofs with
  | nil => rfl
  | cons b bs ih => rw [unmBytes, List.length_cons, List.length_cons, ih]

/-! ### The invariant, by the state of the sequencer

`Inv` states each register's clause under the states it holds in. A step is followed more easily the other way round:
what holds in each state, of the frame being read (`FrameInv`) and of the command in progress (`CommandInv`). -/

/-- Byte 0 has been read and its reserved bits are clear (R83). -/
def State.HasByte0 (s : State) : Prop := s.written.h0 = true ∧ s.rsv = 0

/-- Both header bytes have been read. -/
def State.HasHeader (s : State) : Prop := s.HasByte0 ∧ s.written.h1 = true

/-- The header has been read and the length resolved and accepted (R85 to R87). -/
def State.HasLength (s : State) : Prop := s.HasHeader ∧ s.written.plen = true ∧ s.LengthResolved

/-- `PBUF` holds as many bytes as the length says (R21). -/
def State.HasPayload (s : State) : Prop := s.written.pbuf = true ∧ s.pbuf.length = s.plen.toNat

/-- The clauses of `Inv` about the frame being read, in the `SEQ` state `q`. -/
def FrameInvAt (q : Seq) (s : State) : Prop :=
  match q with
  | .idle | .done => s.answered = false
  | .fdH0 => s.answered = true → s.written.h0 = true
  | .fdH1 => s.HasByte0 ∧ (s.answered = true → s.written.h1 = true)
  | .fdX16 => s.HasHeader ∧ s.len7.toNat = 126 ∧ (s.answered = true → s.written.plen = true ∧ s.plen.toNat < 2 ^ 16)
  | .fdX64 => s.HasHeader ∧ s.len7.toNat = 127 ∧ (s.answered = true → s.written.plen = true)
  | .fdKey => s.HasLength ∧ s.answered = false
  | .fdPay => s.HasLength ∧ (s.masked = true → s.written.key = true) ∧ (s.answered = true → s.HasPayload)
  | .fdEnd | .mrDispatch => s.HasLength ∧ s.HasPayload ∧ s.answered = false

/-- The clauses of `Inv` about the frame being read, in the present `SEQ` state. -/
def FrameInv (s : State) : Prop := FrameInvAt s.seq s

/-- The call registers within their ranges (R24, R25, R26). -/
def State.CallInRange (s : State) : Prop :=
  s.fcnt.toNat ≤ 101 ∧ s.msgOp.toNat ≤ 2 ∧ exceeds s.params.accCap s.acc.length = false

/-- A call that goes on has its registers written and at most 100 frames counted (R32, R102). -/
def State.CallOpen (s : State) : Prop :=
  s.fcnt.toNat ≤ 100 ∧ s.written.acc = true ∧ s.written.msgOp = true ∧ s.written.fcnt = true

/-- The clauses of `Inv` about the command in progress and its result, in the `SEQ` state `q`. -/
def CommandInvAt (q : Seq) (s : State) : Prop :=
  match q with
  | .idle => s.cmd = .none
  | .done => s.cmd ≠ .none ∧ s.res.fits s.cmd ∧ s.written.res = true
  | .mrDispatch => s.cmd = .readMessage ∧ s.closed = false ∧ s.CallOpen
  | .fdH0 | .fdH1 | .fdX16 | .fdX64 | .fdKey | .fdPay | .fdEnd =>
    s.cmd ≠ .none ∧ s.closed = false ∧ (s.cmd = .readMessage → s.CallOpen)

/-- The clauses of `Inv` about the command in progress and its result, in the present `SEQ` state. -/
def CommandInv (s : State) : Prop := CommandInvAt s.seq s

/-- `Inv` is its clauses about the frame, the command and the ranges of the call registers: the same clauses, sorted by
`SEQ` state, in each of which the registers in use are known. -/
theorem inv_iff (s : State) : Inv s ↔ FrameInv s ∧ CommandInv s ∧ s.CallInRange := by
  constructor
  · intro h
    cases h
    cases hs : s.seq <;> simp_all [FrameInv, FrameInvAt, CommandInv, CommandInvAt, State.CallInRange, State.CallOpen,
      State.HasByte0, State.HasHeader, State.HasLength, State.HasPayload, Seq.afterH0, Seq.afterH1, Seq.afterLength,
      State.usesH0, State.usesH1, State.usesPlen, State.usesKey, State.usesPbuf, State.usesCall, State.usesRes]
  · rintro ⟨hf, hc, hfcnt, hop, hacc⟩
    cases hs : s.seq <;> constructor <;> simp_all [FrameInv, FrameInvAt, CommandInv, CommandInvAt, State.CallOpen,
      State.HasByte0, State.HasHeader, State.HasLength, State.HasPayload, Seq.afterH0, Seq.afterH1, Seq.afterLength,
      State.usesH0, State.usesH1, State.usesPlen, State.usesKey, State.usesPbuf, State.usesCall, State.usesRes]

/-! ### Every step keeps the invariant -/

theorem FrameInv.at {s : State} {q : Seq} (h : FrameInv s) (hs : s.seq = q) : FrameInvAt q s := hs ▸ h

theorem FrameInv.of_at {s : State} {q : Seq} (hs : s.seq = q) (h : FrameInvAt q s) : FrameInv s := by
  subst hs; exact h

theorem CommandInv.at {s : State} {q : Seq} (h : CommandInv s) (hs : s.seq = q) : CommandInvAt q s := hs ▸ h

theorem CommandInv.of_at {s : State} {q : Seq} (hs : s.seq = q) (h : CommandInvAt q s) : CommandInv s := by
  subst hs; exact h

/-- Where no byte of a frame has been read yet, nothing is claimed of the frame registers. -/
theorem FrameInv.of_noFrame {s : State} (hs : s.seq = .idle ∨ s.seq = .done ∨ s.seq = .fdH0)
    (ha : s.answered = false) : FrameInv s := by
  rcases hs with hs | hs | hs
  · exact .of_at hs ha
  · exact .of_at hs ha
  · exact .of_at hs fun h => absurd h (by simp [ha])

/-- A counted frame is followed by the next one or by the end of the call (R101). -/
theorem countFrame_seq (s : State) : (countFrame s).seq = .fdH0 ∨ (countFrame s).seq = .done := by
  rcases countFrame_cases s with ⟨-, e⟩ | ⟨-, e⟩ <;> simp [e]

/-- The direct length is the field itself, in the range of R20. -/
theorem lengthResolved_direct {s : State} (hl : s.len7.toNat ≤ 125)
    (hc : exceeds s.params.accCap s.len7.toNat = false) : (s.setPlen s.len7.toNat).LengthResolved := by
  have hn : (s.setPlen s.len7.toNat).plen.toNat = s.len7.toNat := by simp; omega
  refine ⟨fun _ => hn, fun h => ?_, ?_, ?_⟩
  · exact absurd h (by simp; omega)
  · omega
  · rw [hn]; exact hc

/-- A frame register is written in its own state, before anything is claimed of it; past the end of a frame nothing is
claimed. -/
theorem BlockStep.frameInv {s t : State} (h : BlockStep s t) (hi : FrameInv s) : FrameInv t := by
  have noFrame := @FrameInv.of_noFrame t
  cases h with
  | rest | wait | noCommand => exact hi
  | error | rsvSet | returnFrame | dispatchRsv | fastPath | lastFragment | closeFrame | reserved =>
    exact noFrame (.inr (.inl rfl)) rfl
  | delivered => exact noFrame (.inl rfl) rfl
  | fragment | pingPong => exact noFrame (.inr (countFrame_seq _).symm) (countFrame_answered _)
  | gotH0 bs rest hs => exact .of_at hs fun _ => rfl
  | rsvClear hs ha hr => exact ⟨⟨hi.at hs ha, hr⟩, nofun⟩
  | gotH1 bs rest hs => exact .of_at hs ⟨(hi.at hs).1, fun _ => rfl⟩
  | direct hs ha hl hc =>
    obtain ⟨hb, hw⟩ := hi.at hs
    exact ⟨⟨⟨hb, hw ha⟩, rfl, lengthResolved_direct hl hc⟩, rfl⟩
  | ext16 hs ha hl | ext64 hs ha hl =>
    obtain ⟨hb, hw⟩ := hi.at hs
    exact ⟨⟨hb, hw ha⟩, hl, nofun⟩
  | gotX16 bs rest hs =>
    obtain ⟨hh, hl, -⟩ := hi.at hs
    refine .of_at hs ⟨hh, hl, fun _ => ⟨rfl, ?_⟩⟩
    have := be16_lt bs
    simp
    omega
  | gotX64 bs rest hs =>
    obtain ⟨hh, hl, -⟩ := hi.at hs
    exact .of_at hs ⟨hh, hl, fun _ => rfl⟩
  | extended hs ha hl hc =>
    rcases hs with hs | hs
    · obtain ⟨hh, h126, hw⟩ := hi.at hs
      exact ⟨⟨hh, (hw ha).1, fun h => absurd (h126 ▸ h) (by decide), fun _ => (hw ha).2, hl, hc⟩, rfl⟩
    · obtain ⟨hh, h127, hw⟩ := hi.at hs
      exact ⟨⟨hh, hw ha, fun h => absurd (h127 ▸ h) (by decide), fun h => absurd (h127 ▸ h) (by decide), hl, hc⟩, rfl⟩
  | gotKey bs rest hs => exact ⟨(hi.at hs).1, fun _ => rfl, nofun⟩
  | noKey hs hm => exact ⟨(hi.at hs).1, fun h => absurd h (by simp [hm]), nofun⟩
  | gotPayload bs rest hs ha hn hr =>
    obtain ⟨hl, hk, -⟩ := hi.at hs
    exact .of_at hs ⟨hl, hk, fun _ => ⟨rfl, (streamRead_data hr).2⟩⟩
  | noPayload hs ha hn => exact ⟨(hi.at hs).1, ⟨rfl, hn.symm⟩, rfl⟩
  | unmasked hs ha =>
    obtain ⟨hl, -, hp⟩ := hi.at hs
    exact ⟨hl, ⟨rfl, (unmBytes_length ..).trans (hp ha).2⟩, rfl⟩
  | clear hs ha =>
    obtain ⟨hl, -, hp⟩ := hi.at hs
    exact ⟨hl, hp ha, rfl⟩
  | toDispatch hs => exact ⟨(hi.at hs).1, (hi.at hs).2.1, rfl⟩

/-- While FDEC reads a frame the command goes on as it is. -/
def Seq.reading : Seq → Bool
  | .fdH0 | .fdH1 | .fdX16 | .fdX64 | .fdKey | .fdPay | .fdEnd => true
  | .idle | .mrDispatch | .done => false

/-- What is claimed of a command while FDEC reads a frame for it. -/
def State.CommandReads (s : State) : Prop :=
  s.cmd ≠ .none ∧ s.closed = false ∧ (s.cmd = .readMessage → s.CallOpen)

theorem commandInv_reading {s : State} (hs : s.seq.reading = true) : CommandInv s ↔ s.CommandReads := by
  unfold CommandInv CommandInvAt
  split <;> simp_all [Seq.reading, State.CommandReads]

theorem pendingRead_reading {s : State} {n : Nat} (h : s.pendingRead = some n) : s.seq.reading = true := by
  unfold State.pendingRead at h
  split at h <;> simp_all [Seq.reading]

/-- A command ends with a result that fits it. -/
theorem CommandInv.of_done {s : State} (hs : s.seq = .done) (hr : s.res.fits s.cmd) (hw : s.written.res = true) :
    CommandInv s :=
  .of_at hs ⟨fun hc => by simp [hc, Result.fits] at hr, hr, hw⟩

theorem Result.fits_transport {c : Cmd} (h : c ≠ .none) (e : TransportError) : Result.fits c (.err (.transport e)) := by
  cases c with
  | none => exact absurd rfl h
  | decodeFrame | readMessage => trivial

theorem Result.fits_protocolRsv {c : Cmd} (h : c ≠ .none) {rsv : BitVec 3} (hr : rsv ≠ 0) :
    Result.fits c (.err (.protocolRsv rsv)) := by
  cases c with
  | none => exact absurd rfl h
  | decodeFrame | readMessage => exact hr

/-- While a call goes on, the next frame is counted without a carry (R26). -/
theorem State.CallOpen.fcnt_succ {s : State} (h : s.CallOpen) : (s.fcnt + 1).toNat = s.fcnt.toNat + 1 := by
  have := h.1
  rw [BitVec.toNat_add]
  simp
  omega

/-- Appending and recording leave the call open. -/
theorem State.CallOpen.recordOp {s : State} (h : s.CallOpen) (opc : BitVec 4) (a : List Byte) :
    (recordOp opc (s.setAcc a)).CallOpen := by
  obtain ⟨hf, ha, hm, hc⟩ := h
  rcases recordOp_cases opc (s.setAcc a) with e | ⟨-, e⟩ <;> rw [e]
  · exact ⟨hf, rfl, hm, hc⟩
  · exact ⟨hf, rfl, rfl, hc⟩

theorem recordOp_msgOp_le {opc : BitVec 4} {s : State} (ho : opc.toNat ≤ 2) (hm : s.msgOp.toNat ≤ 2) :
    (recordOp opc s).msgOp.toNat ≤ 2 := by
  rcases recordOp_cases opc s with e | ⟨-, e⟩ <;> rw [e]
  · exact hm
  · exact ho

/-- A counted frame leaves room for the next or ends the call with `LIMIT` (R101, R102). -/
theorem countFrame_commandInv {s : State} (hc : s.cmd = .readMessage) (hl : s.closed = false) (ho : s.CallOpen) :
    CommandInv (countFrame s) := by
  have hn := ho.fcnt_succ
  obtain ⟨-, ha, hm, -⟩ := ho
  rcases countFrame_cases s with ⟨hle, e⟩ | ⟨-, e⟩ <;> rw [e]
  · exact (commandInv_reading rfl).mpr ⟨by simp [hc], hl, fun _ => ⟨hle, ha, hm, rfl⟩⟩
  · exact .of_done rfl (by simp [hc, Result.fits]) rfl

/-- Counting keeps the ranges, as `LIMIT` is raised at 101 (R26). -/
theorem countFrame_callInRange {s : State} (ho : s.CallOpen) (hr : s.CallInRange) : (countFrame s).CallInRange := by
  have hn := ho.fcnt_succ
  have hle := ho.1
  obtain ⟨-, hm, ha⟩ := hr
  exact ⟨by rw [countFrame_fcnt]; omega, by rwa [countFrame_msgOp], by rwa [countFrame_params, countFrame_acc]⟩

/-- An append within the capacity keeps the ranges, and so does the record of a data opcode (R24, R100). -/
theorem recordOp_callInRange {s : State} {opc : BitVec 4} {a : List Byte} (ho : opc.toNat ≤ 2) (hr : s.CallInRange)
    (ha : exceeds s.params.accCap a.length = false) : (recordOp opc (s.setAcc a)).CallInRange := by
  obtain ⟨hf, hm, -⟩ := hr
  exact ⟨by simpa using hf, recordOp_msgOp_le ho hm, by simpa using ha⟩

/-- The block's own step keeps what holds of the command: FDEC's steps leave it alone, and each end fits it. -/
theorem BlockStep.commandInv {s t : State} (h : BlockStep s t) (hi : CommandInv s) (hr : s.CallInRange) :
    CommandInv t := by
  have reads (hs : s.seq.reading = true) : s.CommandReads := (commandInv_reading hs).mp hi
  cases h with
  | rest | wait | noCommand => exact hi
  | error n e rest hp => exact .of_done rfl (Result.fits_transport (reads (pendingRead_reading hp)).1 e) rfl
  | gotH0 bs rest hs | gotH1 bs rest hs | gotX16 bs rest hs | gotX64 bs rest hs | gotPayload bs rest hs =>
    have hq := congrArg Seq.reading hs
    exact (commandInv_reading hq).mpr (reads hq)
  | gotKey bs rest hs | noKey hs | noPayload hs | rsvClear hs | direct hs | ext16 hs | ext64 hs | unmasked hs
  | clear hs =>
    exact (commandInv_reading rfl).mpr (reads (congrArg Seq.reading hs))
  | extended hs =>
    have hq : s.seq.reading = true := hs.elim (congrArg Seq.reading) (congrArg Seq.reading)
    exact (commandInv_reading rfl).mpr (reads hq)
  | rsvSet hs ha hn =>
    exact .of_done rfl (Result.fits_protocolRsv (reads (congrArg Seq.reading hs)).1 hn) rfl
  | returnFrame hs hc => exact .of_done rfl (by simp [hc, Result.fits]) rfl
  | toDispatch hs hc =>
    obtain ⟨-, hl, ho⟩ := reads (congrArg Seq.reading hs)
    exact ⟨hc, hl, ho hc⟩
  | dispatchRsv hs hn =>
    obtain ⟨hc, -⟩ := hi.at hs
    exact .of_done rfl (by rw [raise_cmd, hc]; exact hn) rfl
  | fastPath hs _ ho =>
    obtain ⟨hc, -⟩ := hi.at hs
    exact .of_done rfl (by rw [returnResult_cmd, hc]; exact ho) rfl
  | lastFragment hs _ ho =>
    obtain ⟨hc, -⟩ := hi.at hs
    refine .of_done rfl ?_ rfl
    rw [returnResult_cmd, recordOp_cmd, State.setAcc_cmd, hc]
    exact recordOp_msgOp_le ho hr.2.1
  | fragment hs =>
    obtain ⟨hc, hl, ho⟩ := hi.at hs
    exact countFrame_commandInv (by simpa using hc) (by simpa using hl) (ho.recordOp _ _)
  | pingPong hs =>
    obtain ⟨hc, hl, ho⟩ := hi.at hs
    exact countFrame_commandInv hc hl ho
  | closeFrame hs =>
    obtain ⟨hc, -⟩ := hi.at hs
    exact .of_done rfl (by rw [raise_cmd, State.setClosed_cmd, hc]; trivial) rfl
  | reserved hs _ ho =>
    obtain ⟨hc, -⟩ := hi.at hs
    exact .of_done rfl (by rw [raise_cmd, hc]; exact ho) rfl
  | delivered => exact (rfl : (deliver s).cmd = .none)

/-- Only the dispatch writes the call registers in the block's own step, and within their ranges. -/
theorem BlockStep.callInRange {s t : State} (h : BlockStep s t) (hi : CommandInv s) (hr : s.CallInRange) :
    t.CallInRange := by
  cases h with
  | lastFragment hs _ ho _ _ hc => exact recordOp_callInRange ho hr (by simpa using hc)
  | fragment hs _ ho _ hc =>
    obtain ⟨-, -, hopen⟩ := hi.at hs
    exact countFrame_callInRange (hopen.recordOp _ _) (recordOp_callInRange ho hr (by simpa using hc))
  | pingPong hs =>
    obtain ⟨-, -, hopen⟩ := hi.at hs
    exact countFrame_callInRange hopen hr
  | _ => exact hr

theorem BlockStep.inv {s t : State} (h : BlockStep s t) (hi : Inv s) : Inv t := by
  obtain ⟨hf, hc, hr⟩ := (inv_iff s).mp hi
  exact (inv_iff t).mpr ⟨h.frameInv hf, h.commandInv hc hr, h.callInRange hc hr⟩

/-- An accepted command starts with no frame, and READ_MESSAGE with the call registers reset (R32). -/
theorem Accepted.inv {s t : State} {c : Command} (h : Accepted s c t) (hi : Inv s) : Inv t := by
  obtain ⟨hf, hc, hr⟩ := (inv_iff s).mp hi
  refine (inv_iff t).mpr ?_
  cases h with
  | unmask key ofs data hs => exact ⟨.of_at hs (hf.at hs), .of_at hs (hc.at hs), hr⟩
  | decodeFrame hs hl =>
    exact ⟨.of_noFrame (.inr (.inr rfl)) rfl, (commandInv_reading rfl).mpr ⟨nofun, hl, nofun⟩, hr⟩
  | readMessage hs hl =>
    have hcap : exceeds s.params.accCap 0 = false := by cases s.params.accCap <;> rfl
    exact ⟨.of_noFrame (.inr (.inr rfl)) rfl,
      (commandInv_reading rfl).mpr ⟨nofun, hl, fun _ => ⟨Nat.zero_le _, rfl, rfl, rfl⟩⟩,
      Nat.zero_le _, Nat.zero_le _, hcap⟩

/-- `Inv` does not speak of the host, nor of the Connection's existence. -/
theorem Inv.setHost {s : State} (h : Inv s) (ms : List HostMove) : Inv (s.setHost ms) := by
  rw [inv_iff] at h ⊢
  exact h

theorem Inv.destroy {s : State} (h : Inv s) : Inv s.destroy := by
  rw [inv_iff] at h ⊢
  exact h

/-- Settles O43, by the cases of a step (`step_next`): the host's moves touch nothing `Inv` speaks of, and an accepted
command and the block's own step keep it. -/
theorem stepKeepsTheInvariant : Obligations.StepKeepsTheInvariant := by
  intro s t hi h
  rcases step_next h with ⟨-, ms, rfl⟩ | ⟨-, c, ms, -, ha⟩ | ⟨-, ms, -, rfl⟩ | ⟨-, ms, -, hb⟩
  · exact hi.setHost ms
  · exact ha.inv (hi.setHost ms)
  · exact (hi.setHost ms).destroy
  · exact hb.inv (hi.setHost ms)

/-- Settles O42: at `IDLE` with no command only the ranges of the call registers are claimed, and they are zero. -/
theorem resetMeetsTheInvariant : Obligations.ResetMeetsTheInvariant :=
  (inv_iff State.reset).mpr ⟨rfl, rfl, Nat.zero_le _, Nat.zero_le _, rfl⟩

/-- Settles O41, by the record of `State.reset`. -/
theorem resetIsAnIdleConnection : Obligations.ResetIsAnIdleConnection := ⟨rfl, rfl, rfl, rfl⟩

end Sys2Proof.Machine

namespace Sys2Proof.Machine

/-! ### Who writes a register in a step

For each register: the block's own step keeps it, or is one of its writers. The acceptance of a command likewise. The
host's other moves touch no register. -/

/-- A one-byte read takes the next byte of the stream. -/
theorem streamRead_one {items rest : List StreamItem} {bs : List Byte} (h : streamRead 1 items = .data bs rest) :
    items = .byte (bs.getD 0 0) :: rest := by
  obtain ⟨hi, hl⟩ := streamRead_data h
  obtain ⟨b, rfl⟩ := List.length_eq_one_iff.mp hl
  exact hi

/-- The key read takes the key's bytes in stream order (R42). -/
theorem streamRead_key {items rest : List StreamItem} {bs : List Byte} (h : streamRead 4 items = .data bs rest) :
    items = streamOf (MaskKey.ofBytes bs).bytes ++ rest := by
  obtain ⟨hi, hl⟩ := streamRead_data h
  match bs, hl with
  | [_, _, _, _], _ => exact hi

namespace BlockStep

variable {s t : State}

theorem closed_cases (h : BlockStep s t) :
    t.closed = s.closed ∨
      (s.seq = .mrDispatch ∧ s.opc = 8 ∧ t.res = .err .close ∧ t.seq = .done ∧ t.closed = true) := by
  cases h with
  | closeFrame hs _ ho => exact .inr ⟨hs, ho, rfl, rfl, rfl⟩
  | _ => exact .inl (by simp)

theorem key_cases (h : BlockStep s t) :
    t.key = s.key ∨ (s.seq = .fdKey ∧ s.masked = true ∧ s.stream = streamOf t.key.bytes ++ t.stream) := by
  cases h with
  | gotKey bs rest hs hm hr => exact .inr ⟨hs, hm, streamRead_key hr⟩
  | _ => exact .inl (by simp)

theorem h0_cases (h : BlockStep s t) :
    t.h0 = s.h0 ∨ (s.seq = .fdH0 ∧ s.stream = .byte t.h0 :: t.stream) := by
  cases h with
  | gotH0 bs rest hs ha hr => exact .inr ⟨hs, streamRead_one hr⟩
  | _ => exact .inl (by simp)

theorem h1_cases (h : BlockStep s t) :
    t.h1 = s.h1 ∨ (s.seq = .fdH1 ∧ s.stream = .byte t.h1 :: t.stream) := by
  cases h with
  | gotH1 bs rest hs ha hr => exact .inr ⟨hs, streamRead_one hr⟩
  | _ => exact .inl (by simp)

theorem plen_cases (h : BlockStep s t) : t.plen = s.plen ∨ s.seq = .fdH1 ∨ s.seq = .fdX16 ∨ s.seq = .fdX64 := by
  cases h with
  | direct hs => exact .inr (.inl hs)
  | gotX16 bs rest hs => exact .inr (.inr (.inl hs))
  | gotX64 bs rest hs => exact .inr (.inr (.inr hs))
  | _ => exact .inl (by simp)

theorem pbuf_cases (h : BlockStep s t) : t.pbuf = s.pbuf ∨ s.seq = .fdPay := by
  cases h with
  | gotPayload bs rest hs | noPayload hs | unmasked hs => exact .inr hs
  | _ => exact .inl (by simp)

theorem acc_cases (h : BlockStep s t) :
    t.acc = s.acc ∨ (s.seq = .mrDispatch ∧ s.opc.toNat ≤ 2 ∧ t.acc = s.acc ++ s.pbuf) := by
  cases h with
  | lastFragment hs _ ho | fragment hs _ ho => exact .inr ⟨hs, ho, by simp⟩
  | _ => exact .inl (by simp)

theorem fcnt_cases (h : BlockStep s t) : t.fcnt = s.fcnt ∨ (s.seq = .mrDispatch ∧ t.fcnt = s.fcnt + 1) := by
  cases h with
  | fragment hs | pingPong hs => exact .inr ⟨hs, by simp⟩
  | _ => exact .inl (by simp)

theorem delivered_cases (h : BlockStep s t) :
    t.delivered = s.delivered ∨
      (s.seq = .done ∧ t.seq = .idle ∧ t.delivered = s.delivered ++ [t.res]) := by
  cases h with
  | delivered hs => exact .inr ⟨hs, rfl, rfl⟩
  | _ => exact .inl (by simp)

end BlockStep

/-- Only TEXT's and BINARY's opcodes are recorded (R100). -/
theorem recordOp_msgOp_cases {opc : BitVec 4} (ho : opc.toNat ≤ 2) (s : State) :
    (recordOp opc s).msgOp = s.msgOp ∨ ((opc = 1 ∨ opc = 2) ∧ (recordOp opc s).msgOp = opc) := by
  rcases recordOp_cases opc s with e | ⟨hne, e⟩ <;> rw [e]
  · exact .inl rfl
  · refine .inr ⟨?_, rfl⟩
    have : ∀ o : BitVec 4, o ≠ 0 → o.toNat ≤ 2 → o = 1 ∨ o = 2 := by decide
    exact this opc hne ho

theorem BlockStep.msgOp_cases {s t : State} (h : BlockStep s t) :
    t.msgOp = s.msgOp ∨ (s.seq = .mrDispatch ∧ (s.opc = 1 ∨ s.opc = 2) ∧ t.msgOp = s.opc) := by
  cases h with
  | lastFragment hs _ ho | fragment hs _ ho =>
    simpa [hs] using recordOp_msgOp_cases ho (s.setAcc (s.acc ++ s.pbuf))
  | _ => exact .inl (by simp)

/-- Of the host's moves and the block's ways only the close frame writes `CLOSED`. -/
theorem step_closed_cases {s t : State} (h : step s = .next t) :
    t.closed = s.closed ∨
      (s.seq = .mrDispatch ∧ s.opc = 8 ∧ t.res = .err .close ∧ t.seq = .done ∧ t.closed = true) := by
  rcases step_next h with ⟨-, ms, rfl⟩ | ⟨-, c, ms, -, ha⟩ | ⟨-, ms, -, rfl⟩ | ⟨-, ms, -, hb⟩
  · exact .inl rfl
  · exact .inl (by cases ha <;> rfl)
  · exact .inl rfl
  · exact hb.closed_cases

/-- Settles O44: a step keeps `CLOSED`, or is the close frame's, which sets it. -/
theorem closedIsALatchOfTheCloseSignal : Obligations.ClosedIsALatchOfTheCloseSignal := by
  intro s t h
  rcases step_closed_cases h with e | ⟨hs, ho, hr, hd, hc⟩
  · exact ⟨e.trans, fun h h' => absurd (e.symm.trans h') (by simp [h])⟩
  · exact ⟨fun _ => hc, fun _ _ => ⟨hs, ho, hr, hd⟩⟩

/-- Settles O45: a changed `KEY` is the block's key read. -/
theorem keyIsWrittenOnlyByTheKeyRead : Obligations.KeyIsWrittenOnlyByTheKeyRead := by
  intro s t h hne
  rcases step_next h with ⟨-, ms, rfl⟩ | ⟨-, c, ms, -, ha⟩ | ⟨-, ms, -, rfl⟩ | ⟨-, ms, -, hb⟩
  · exact absurd rfl hne
  · exact absurd (by cases ha <;> rfl) hne
  · exact absurd rfl hne
  · exact hb.key_cases.resolve_left hne

/-- Settles O46, register by register: the host's moves touch none of them, and the block writes each in its own
state. -/
theorem frameRegistersHaveOneWriterEach : Obligations.FrameRegistersHaveOneWriterEach := by
  intro s t h
  rcases step_next h with ⟨-, ms, rfl⟩ | ⟨-, c, ms, -, ha⟩ | ⟨-, ms, -, rfl⟩ | ⟨-, ms, -, hb⟩
  · exact ⟨absurd rfl, absurd rfl, absurd rfl, absurd rfl⟩
  · cases ha <;> exact ⟨absurd rfl, absurd rfl, absurd rfl, absurd rfl⟩
  · exact ⟨absurd rfl, absurd rfl, absurd rfl, absurd rfl⟩
  · exact ⟨hb.h0_cases.resolve_left, hb.h1_cases.resolve_left, hb.plen_cases.resolve_left, hb.pbuf_cases.resolve_left⟩

/-- Settles O47, register by register: READ_MESSAGE's acceptance resets all three, and the block writes them at the
dispatch. -/
theorem callRegistersHaveTheirWriters : Obligations.CallRegistersHaveTheirWriters := by
  intro s t h
  rcases step_next h with ⟨-, ms, rfl⟩ | ⟨-, c, ms, -, ha⟩ | ⟨-, ms, -, rfl⟩ | ⟨-, ms, -, hb⟩
  · exact ⟨absurd rfl, absurd rfl, absurd rfl⟩
  · cases ha with
    | unmask | decodeFrame => exact ⟨absurd rfl, absurd rfl, absurd rfl⟩
    | readMessage hs =>
      exact ⟨fun _ => .inl ⟨hs, rfl, rfl⟩, fun _ => .inl ⟨hs, rfl, rfl⟩, fun _ => .inl ⟨hs, rfl, rfl⟩⟩
  · exact ⟨absurd rfl, absurd rfl, absurd rfl⟩
  · exact ⟨fun hne => .inr (hb.acc_cases.resolve_left hne), fun hne => .inr (hb.msgOp_cases.resolve_left hne),
      fun hne => .inr (hb.fcnt_cases.resolve_left hne)⟩

/-- Settles O48: an accepted UNMASK delivers its result at once, and the block delivers at `DONE`. -/
theorem resultsReachTheHostOnce : Obligations.ResultsReachTheHostOnce := by
  intro s t h hne
  rcases step_next h with ⟨-, ms, rfl⟩ | ⟨-, c, ms, ht, ha⟩ | ⟨-, ms, -, rfl⟩ | ⟨-, ms, -, hb⟩
  · exact absurd rfl hne
  · cases ha with
    | unmask key ofs data hs => exact ⟨rfl, hs, .inr ⟨hs, key, ofs, data, ms, ht, rfl⟩⟩
    | decodeFrame | readMessage => exact absurd rfl hne
  · exact absurd rfl hne
  · obtain ⟨hs, hi, hd⟩ := hb.delivered_cases.resolve_left hne
    exact ⟨hd, hi, .inl hs⟩

/-! ### What a step runs -/

/-- A header in place is executed. -/
theorem advance_of_headerInstr {s : State} {i : Instr} (h : s.headerInstr = some i) : advance s = exec i s := by
  rw [advance, h]

/-- Settles O16: the host's command is taken from its list, and the block decodes the header bytes in its registers. -/
theorem stepRunsTheDecodedInstruction : Obligations.StepRunsTheDecodedInstruction := by
  intro s ms hl
  refine ⟨fun c hh => step_command hl ?_, fun c hh hs => step_command hl ?_, fun i rest ht hs ha hd => ?_,
    fun i rest ht hs hd => ?_⟩
  · rw [State.turn, hh]
  · rw [State.turn, hh]
    exact if_pos hs
  · rw [step_quiet hl ht]
    refine advance_of_headerInstr ?_
    simp [State.headerInstr, State.headerBytes, hs, ha, hd]
  · rw [step_quiet hl ht]
    refine advance_of_headerInstr ?_
    simp [State.headerInstr, State.headerBytes, hs, hd]

/-- Settles O29: at `DONE` no header is due, and the sequencer delivers. -/
theorem waitingResultIsDelivered : Obligations.WaitingResultIsDelivered := by
  intro s ms hl ht hs
  rw [step_quiet hl ht, advance_sequencer (by simp [hs]) (by simp [hs])]
  simp only [sequencerStep, State.setHost_seq, hs]
  rfl

end Sys2Proof.Machine

namespace Sys2Proof.Machine

/-! ### Agreement on the registers in use, by the state of the sequencer

As with `Inv`: `SameInUse` states each register's clause under the states it is in use in; here stands what agrees in
each state, of the frame being read and of the command in progress. -/

/-- Two states with the same sequencer, agents and parameters: all but the contents of the registers. -/
structure SameControl (s t : State) : Prop where
  seq : s.seq = t.seq
  answered : s.answered = t.answered
  cmd : s.cmd = t.cmd
  closed : s.closed = t.closed
  live : s.live = t.live
  host : s.host = t.host
  delivered : s.delivered = t.delivered
  stream : s.stream = t.stream
  params : s.params = t.params

/-- The header and the length agree. -/
def SameLength (s t : State) : Prop := s.h0 = t.h0 ∧ s.h1 = t.h1 ∧ s.plen = t.plen

/-- The registers of the frame being read agree, where they are in use in the `SEQ` state `q`. -/
def SameFrameAt (q : Seq) (s t : State) : Prop :=
  match q with
  | .idle | .done => True
  | .fdH0 => s.answered = true → s.h0 = t.h0
  | .fdH1 => s.h0 = t.h0 ∧ (s.answered = true → s.h1 = t.h1)
  | .fdX16 | .fdX64 => s.h0 = t.h0 ∧ s.h1 = t.h1 ∧ (s.answered = true → s.plen = t.plen)
  | .fdKey => SameLength s t
  | .fdPay => SameLength s t ∧ (s.masked = true → s.key = t.key) ∧ (s.answered = true → s.pbuf = t.pbuf)
  | .fdEnd | .mrDispatch => SameLength s t ∧ s.pbuf = t.pbuf

/-- The registers of the frame being read agree, where they are in use. -/
def SameFrame (s t : State) : Prop := SameFrameAt s.seq s t

/-- The call registers agree. -/
def SameCall (s t : State) : Prop := s.acc = t.acc ∧ s.msgOp = t.msgOp ∧ s.fcnt = t.fcnt

/-- The call registers and `RES` agree, where they are in use in the `SEQ` state `q`. -/
def SameCommandAt (q : Seq) (s t : State) : Prop :=
  match q with
  | .idle => True
  | .done => s.res = t.res
  | .mrDispatch => SameCall s t
  | .fdH0 | .fdH1 | .fdX16 | .fdX64 | .fdKey | .fdPay | .fdEnd => s.cmd = .readMessage → SameCall s t

/-- The call registers and `RES` agree, where they are in use. -/
def SameCommand (s t : State) : Prop := SameCommandAt s.seq s t

/-- `SameInUse` is agreement on the control, on the frame and on the command: in each `SEQ` state the registers in use
are known. -/
theorem sameInUse_iff {s t : State} : SameInUse s t ↔ SameControl s t ∧ SameFrame s t ∧ SameCommand s t := by
  constructor
  · rintro ⟨hseq, hans, hcmd, hclosed, hlive, hhost, hdel, hstr, hpar, _, _, _, _, _, _, _⟩
    refine ⟨⟨hseq, hans, hcmd, hclosed, hlive, hhost, hdel, hstr, hpar⟩, ?_⟩
    clear hseq hans hcmd hclosed hlive hhost hdel hstr hpar
    cases hs : s.seq <;> simp_all [SameFrame, SameFrameAt, SameCommand, SameCommandAt, SameLength, SameCall,
      Seq.afterH0, Seq.afterH1, Seq.afterLength, State.usesH0, State.usesH1, State.usesPlen, State.usesKey,
      State.usesPbuf, State.usesCall, State.usesRes]
  · rintro ⟨hc, hf, hm⟩
    refine { hc with h0 := ?_, h1 := ?_, plen := ?_, key := ?_, pbuf := ?_, call := ?_, res := ?_ }
    all_goals
      clear hc
      cases hs : s.seq <;> simp_all [SameFrame, SameFrameAt, SameCommand, SameCommandAt, SameLength, SameCall,
        Seq.afterH0, Seq.afterH1, Seq.afterLength, State.usesH0, State.usesH1, State.usesPlen, State.usesKey,
        State.usesPbuf, State.usesCall, State.usesRes]

theorem SameFrame.at {s t : State} {q : Seq} (h : SameFrame s t) (hs : s.seq = q) : SameFrameAt q s t := hs ▸ h

theorem SameFrame.of_at {s t : State} {q : Seq} (hs : s.seq = q) (h : SameFrameAt q s t) : SameFrame s t := by
  subst hs; exact h

theorem SameCommand.at {s t : State} {q : Seq} (h : SameCommand s t) (hs : s.seq = q) : SameCommandAt q s t := hs ▸ h

theorem SameCommand.of_at {s t : State} {q : Seq} (hs : s.seq = q) (h : SameCommandAt q s t) : SameCommand s t := by
  subst hs; exact h

theorem sameCommand_reading {s t : State} (hs : s.seq.reading = true) :
    SameCommand s t ↔ (s.cmd = .readMessage → SameCall s t) := by
  unfold SameCommand SameCommandAt
  split <;> simp_all [Seq.reading]

theorem SameInUse.control {s t : State} (h : SameInUse s t) : SameControl s t := (sameInUse_iff.mp h).1

theorem SameInUse.frame {s t : State} {q : Seq} (h : SameInUse s t) (hs : s.seq = q) : SameFrameAt q s t :=
  (sameInUse_iff.mp h).2.1.at hs

theorem SameInUse.command {s t : State} {q : Seq} (h : SameInUse s t) (hs : s.seq = q) : SameCommandAt q s t :=
  (sameInUse_iff.mp h).2.2.at hs

theorem SameInUse.sameCall {s t : State} {q : Seq} (h : SameInUse s t) (hs : s.seq = q) (hq : q.reading = true) :
    s.cmd = .readMessage → SameCall s t :=
  (sameCommand_reading (hs ▸ hq)).mp (sameInUse_iff.mp h).2.2

theorem State.masked_eq {s t : State} (h : s.h1 = t.h1) : t.masked = s.masked := by rw [masked, masked, h]

theorem State.fin_eq {s t : State} (h : s.h0 = t.h0) : t.fin = s.fin := by rw [fin, fin, h]

theorem State.opc_eq {s t : State} (h : s.h0 = t.h0) : t.opc = s.opc := by rw [opc, opc, h]

theorem State.len7_eq {s t : State} (h : s.h1 = t.h1) : t.len7 = s.len7 := by rw [len7, len7, h]

/-! ### The shared operations keep the agreement -/

theorem SameControl.setStream {s t : State} (h : SameControl s t) (items : List StreamItem) :
    SameControl (s.setStream items) (t.setStream items) := { h with stream := rfl }

theorem SameControl.setHost {s t : State} (h : SameControl s t) (ms : List HostMove) :
    SameControl (s.setHost ms) (t.setHost ms) := { h with host := rfl }

theorem SameControl.setFcnt {s t : State} (h : SameControl s t) (n : BitVec 7) :
    SameControl (s.setFcnt n) (t.setFcnt n) := { h with }

theorem SameControl.setAcc {s t : State} (h : SameControl s t) (a : List Byte) :
    SameControl (s.setAcc a) (t.setAcc a) := { h with }

theorem SameControl.setClosed {s t : State} (h : SameControl s t) : SameControl s.setClosed t.setClosed :=
  { h with closed := rfl }

/-- The end of a command is observed through `RES` alone. -/
theorem SameControl.returnResult {s t : State} (h : SameControl s t) (r : Result) :
    SameInUse (returnResult r s) (returnResult r t) :=
  sameInUse_iff.mpr ⟨{ h with seq := rfl, answered := rfl }, trivial, rfl⟩

theorem SameControl.raise {s t : State} (h : SameControl s t) (k : ErrKind) : SameInUse (raise k s) (raise k t) :=
  h.returnResult (.err k)

/-- A read agrees when what it does with data does: an error ends the command, and without an answer nothing changes. -/
theorem readThen_agree {s t : State} (h : SameInUse s t) {n : Nat} {k : List Byte → State → State}
    (hk : ∀ bs rest, SameInUse (k bs (s.setStream rest)) (k bs (t.setStream rest))) :
    Agree SameInUse (readThen n s k) (readThen n t k) := by
  unfold readThen
  rw [← h.control.stream]
  split
  · exact hk _ _
  · exact (h.control.setStream _).raise _
  · exact h

theorem checkLength_agree {s t : State} (hp : s.plen = t.plen) (hc : s.params = t.params)
    (hk : SameInUse (s.goto .fdKey) (t.goto .fdKey)) : Agree SameInUse (checkLength s) (checkLength t) := by
  unfold checkLength
  rw [← hp, ← hc]
  split
  · rfl
  · rfl
  · exact hk

/-- Recording an opcode reads and writes the call registers alone. -/
theorem recordOp_same {s t : State} (hc : SameControl s t) (ha : SameCall s t) (opc : BitVec 4) :
    SameControl (recordOp opc s) (recordOp opc t) ∧ SameCall (recordOp opc s) (recordOp opc t) := by
  obtain ⟨hacc, hop, hfcnt⟩ := ha
  unfold recordOp
  rw [← hc.params, ← hop]
  split
  · exact ⟨{ hc with }, hacc, rfl, hfcnt⟩
  · exact ⟨hc, hacc, hop, hfcnt⟩

/-- Counting a frame reads `FCNT` alone, and leaves no frame register in use. -/
theorem countFrame_same {s t : State} (hc : SameControl s t) (ha : SameCall s t) :
    SameInUse (countFrame s) (countFrame t) := by
  obtain ⟨hacc, hop, hfcnt⟩ := ha
  unfold countFrame
  rw [← hfcnt]
  split
  · exact (hc.setFcnt _).raise _
  · exact sameInUse_iff.mpr ⟨{ hc with seq := rfl, answered := rfl }, nofun, fun _ => ⟨hacc, hop, rfl⟩⟩

/-- A data frame reads `PBUF` and the call registers. -/
theorem dataFrame_agree {s t : State} (hc : SameControl s t) (ha : SameCall s t) (hp : s.pbuf = t.pbuf)
    (opc : BitVec 4) (fin : Bool) : Agree SameInUse (dataFrame opc fin s) (dataFrame opc fin t) := by
  obtain ⟨hacc, hop, hfcnt⟩ := ha
  obtain ⟨hc', ha'⟩ := recordOp_same (hc.setAcc (s.acc ++ s.pbuf)) ⟨rfl, hop, hfcnt⟩ opc
  simp only [dataFrame, ← hacc, ← hp, ← hc.params, ← ha'.1, ← ha'.2.1]
  split_ifs
  · exact hc.returnResult _
  · rfl
  · exact hc'.returnResult _
  · exact countFrame_same hc' ha'

/-! ### Every step keeps the agreement -/

/-- A stream command is accepted by `SEQ` and `CLOSED` alone (R128, R129). -/
theorem acceptThen_agree {s t : State} (hc : SameControl s t) {k : State → State} (hk : SameInUse (k s) (k t)) :
    Agree SameInUse (acceptThen s k) (acceptThen t k) := by
  unfold acceptThen
  rw [← hc.seq, ← hc.closed]
  split_ifs
  · rfl
  · rfl
  · exact hk

theorem execUnmask_agree {s t : State} (hc : SameControl s t) (key : MaskKey) (ofs : BitVec 2) (data : List Byte) :
    Agree SameInUse (execUnmask key ofs data s) (execUnmask key ofs data t) := by
  unfold execUnmask
  rw [← hc.seq]
  split_ifs with hs
  · rfl
  · have hi : s.seq = .idle := by simpa using hs
    exact sameInUse_iff.mpr
      ⟨{ hc with delivered := congrArg (· ++ [_]) hc.delivered }, .of_at hi trivial, .of_at hi trivial⟩

/-- READ_MESSAGE resets the call registers it will use (R32); the other commands use none. -/
theorem exec_command_agree {s t : State} (hc : SameControl s t) (c : Command) :
    Agree SameInUse (exec c.toInstr s) (exec c.toInstr t) := by
  cases c with
  | unmask key ofs data => exact execUnmask_agree hc key ofs data
  | decodeFrame =>
    show Agree SameInUse (execDecodeFrame s) (execDecodeFrame t)
    refine acceptThen_agree hc (sameInUse_iff.mpr ⟨?_, nofun, nofun⟩)
    exact { hc with seq := rfl, answered := rfl, cmd := rfl }
  | readMessage =>
    show Agree SameInUse (execReadMessage s) (execReadMessage t)
    refine acceptThen_agree hc (sameInUse_iff.mpr ⟨?_, nofun, fun _ => ⟨rfl, rfl, rfl⟩⟩)
    exact { hc with seq := rfl, answered := rfl, cmd := rfl }

/-- At the dispatch every header's meaning reads the payload and the call registers alone. -/
theorem exec_dispatch_agree {s t : State} (h : SameInUse s t) (hs : s.seq = .mrDispatch) (i : Instr) :
    Agree SameInUse (exec i s) (exec i t) := by
  have hc := h.control
  have ha : SameCall s t := h.command hs
  obtain ⟨-, hp⟩ := h.frame hs
  cases i with
  | cont fin => exact dataFrame_agree hc ha hp 0 fin
  | text fin => exact dataFrame_agree hc ha hp 1 fin
  | binary fin => exact dataFrame_agree hc ha hp 2 fin
  | ping | pong => exact countFrame_same hc ha
  | close => exact hc.setClosed.raise .close
  | unmask key ofs data => exact exec_command_agree hc (.unmask key ofs data)
  | decodeFrame => exact exec_command_agree hc .decodeFrame
  | readMessage => exact exec_command_agree hc .readMessage
  | _ => exact hc.raise _

/-- While FDEC reads, agreement is that of the frame registers in use and, in a call, of the call registers. -/
theorem sameInUse_of_reading {s t : State} (hq : s.seq.reading = true) (hc : SameControl s t) (hf : SameFrame s t)
    (hm : s.cmd = .readMessage → SameCall s t) : SameInUse s t :=
  sameInUse_iff.mpr ⟨hc, hf, (sameCommand_reading hq).mpr hm⟩

/-! FDEC's steps: each reads frame registers in use and writes its own; the call's are left alone. -/

section Fdec

variable {s t : State}

theorem readH0_agree (h : SameInUse s t) (hs : s.seq = .fdH0) : Agree SameInUse (readH0 s) (readH0 t) :=
  readThen_agree h fun _ _ => sameInUse_of_reading (congrArg Seq.reading hs)
    { h.control with stream := rfl, answered := rfl } (.of_at hs fun _ => rfl) (h.sameCall hs rfl)

theorem acceptH0_agree (h : SameInUse s t) (hs : s.seq = .fdH0) (ha : s.answered = true) :
    Agree SameInUse (acceptH0 s) (acceptH0 t) :=
  sameInUse_of_reading rfl { h.control with seq := rfl, answered := rfl } ⟨h.frame hs ha, nofun⟩ (h.sameCall hs rfl)

theorem readH1_agree (h : SameInUse s t) (hs : s.seq = .fdH1) : Agree SameInUse (readH1 s) (readH1 t) :=
  readThen_agree h fun _ _ => sameInUse_of_reading (congrArg Seq.reading hs)
    { h.control with stream := rfl, answered := rfl } (.of_at hs ⟨(h.frame hs).1, fun _ => rfl⟩) (h.sameCall hs rfl)

theorem resolveLength_agree (h : SameInUse s t) (hs : s.seq = .fdH1) (ha : s.answered = true) :
    Agree SameInUse (resolveLength s) (resolveLength t) := by
  obtain ⟨h0, h1⟩ := h.frame hs
  unfold resolveLength
  rw [State.len7_eq (h1 ha)]
  split
  · exact checkLength_agree rfl h.control.params (sameInUse_of_reading rfl
      { h.control with seq := rfl, answered := rfl } ⟨h0, h1 ha, rfl⟩ (h.sameCall hs rfl))
  all_goals
    exact sameInUse_of_reading rfl { h.control with seq := rfl, answered := rfl } ⟨h0, h1 ha, nofun⟩ (h.sameCall hs rfl)

/-- The extended lengths are read alike, whichever their width (R85). -/
theorem readExtended_agree (h : SameInUse s t) {q : Seq} (hq : q = .fdX16 ∨ q = .fdX64) (hs : s.seq = q) (n : Nat)
    (be : List Byte → Nat) :
    Agree SameInUse (readThen n s fun bs s => (s.setPlen (be bs)).setAnswered)
      (readThen n t fun bs s => (s.setPlen (be bs)).setAnswered) := by
  rcases hq with rfl | rfl
  all_goals
    obtain ⟨h0, h1, -⟩ := h.frame hs
    exact readThen_agree h fun _ _ => sameInUse_of_reading (congrArg Seq.reading hs)
      { h.control with stream := rfl, answered := rfl } (.of_at hs ⟨h0, h1, fun _ => rfl⟩) (h.sameCall hs rfl)

theorem checkExtended_agree (h : SameInUse s t) {q : Seq} (hq : q = .fdX16 ∨ q = .fdX64) (hs : s.seq = q)
    (ha : s.answered = true) : Agree SameInUse (checkLength s) (checkLength t) := by
  have hl : SameLength s t := by
    rcases hq with rfl | rfl <;> exact ⟨(h.frame hs).1, (h.frame hs).2.1, (h.frame hs).2.2 ha⟩
  have hr : q.reading = true := by rcases hq with rfl | rfl <;> rfl
  exact checkLength_agree hl.2.2 h.control.params
    (sameInUse_of_reading rfl { h.control with seq := rfl, answered := rfl } hl (h.sameCall hs hr))

theorem readKey_agree (h : SameInUse s t) (hs : s.seq = .fdKey) : Agree SameInUse (readKey s) (readKey t) := by
  have hl : SameLength s t := h.frame hs
  unfold readKey
  rw [State.masked_eq hl.2.1]
  split_ifs with hm
  · exact readThen_agree h fun _ _ => sameInUse_of_reading rfl
      { h.control with stream := rfl, seq := rfl, answered := rfl } ⟨hl, fun _ => rfl, nofun⟩ (h.sameCall hs rfl)
  · exact sameInUse_of_reading rfl { h.control with seq := rfl, answered := rfl }
      ⟨hl, fun hm' => absurd hm' hm, nofun⟩ (h.sameCall hs rfl)

theorem readPayload_agree (h : SameInUse s t) (hs : s.seq = .fdPay) :
    Agree SameInUse (readPayload s) (readPayload t) := by
  obtain ⟨hl, hk, -⟩ := h.frame hs
  unfold readPayload
  rw [← hl.2.2]
  split_ifs
  · exact readThen_agree h fun _ _ => sameInUse_of_reading (congrArg Seq.reading hs)
      { h.control with stream := rfl, answered := rfl } (.of_at hs ⟨hl, hk, fun _ => rfl⟩) (h.sameCall hs rfl)
  · exact sameInUse_of_reading rfl { h.control with seq := rfl, answered := rfl } ⟨hl, rfl⟩ (h.sameCall hs rfl)

theorem unmaskPayload_agree (h : SameInUse s t) (hs : s.seq = .fdPay) (ha : s.answered = true) :
    Agree SameInUse (unmaskPayload s) (unmaskPayload t) := by
  obtain ⟨hl, hk, hp⟩ := h.frame hs
  unfold unmaskPayload
  rw [State.masked_eq hl.2.1]
  split_ifs with hm
  · rw [← hk hm, ← hp ha]
    exact sameInUse_of_reading rfl { h.control with seq := rfl, answered := rfl } ⟨hl, rfl⟩ (h.sameCall hs rfl)
  · exact sameInUse_of_reading rfl { h.control with seq := rfl, answered := rfl } ⟨hl, hp ha⟩ (h.sameCall hs rfl)

theorem endFrame_agree (h : SameInUse s t) (hs : s.seq = .fdEnd) : Agree SameInUse (endFrame s) (endFrame t) := by
  obtain ⟨hl, hp⟩ := h.frame hs
  have ⟨h0, h1, _⟩ := hl
  unfold endFrame
  rw [← h.control.cmd]
  split
  · rw [State.fin_eq h0, State.opc_eq h0, State.masked_eq h1, ← hp]
    exact h.control.returnResult _
  · rename_i hc
    exact sameInUse_iff.mpr ⟨{ h.control with seq := rfl, answered := rfl }, ⟨hl, hp⟩, h.sameCall hs rfl hc⟩
  · exact h

theorem deliver_agree (h : SameInUse s t) (hs : s.seq = .done) : SameInUse (deliver s) (deliver t) := by
  have hr : s.res = t.res := h.command hs
  have hd : s.delivered ++ [s.res] = t.delivered ++ [t.res] := by rw [h.control.delivered, hr]
  exact sameInUse_iff.mpr
    ⟨{ h.control with seq := rfl, answered := rfl, cmd := rfl, delivered := hd }, trivial, trivial⟩

theorem sequencerStep_agree (h : SameInUse s t) : Agree SameInUse (sequencerStep s) (sequencerStep t) := by
  unfold sequencerStep
  rw [← h.control.seq, ← h.control.answered]
  split <;> rename_i hs ha
  · exact h
  · exact readH0_agree h hs
  · exact acceptH0_agree h hs ha
  · exact readH1_agree h hs
  · exact resolveLength_agree h hs ha
  · exact readExtended_agree h (.inl rfl) hs 2 be16
  · exact checkExtended_agree h (.inl rfl) hs ha
  · exact readExtended_agree h (.inr rfl) hs 8 be64
  · exact checkExtended_agree h (.inr rfl) hs ha
  · exact readKey_agree h ha
  · exact readPayload_agree h hs
  · exact unmaskPayload_agree h hs ha
  · exact endFrame_agree h ha
  · exact h
  · exact deliver_agree h ha

end Fdec

/-- The header bytes of a step are registers in use. -/
theorem headerInstr_eq {s t : State} (h : SameInUse s t) : t.headerInstr = s.headerInstr := by
  have hb : t.headerBytes = s.headerBytes := by
    unfold State.headerBytes
    rw [← h.control.seq, ← h.control.answered]
    split <;> rename_i hs
    · split_ifs with ha
      · rw [h.frame hs ha]
      · rfl
    · rw [(h.frame hs).1.1, (h.frame hs).1.2.1]
    all_goals rfl
  unfold State.headerInstr
  rw [hb]

/-- A header alone in `H0` has a reserved bit set, and its meaning reads no register. -/
theorem exec_byte0_agree {s t : State} (hc : SameControl s t) {b : Byte} {i : Instr} {rest : List Byte}
    (hd : decode [b] = .ok (i, rest)) : Agree SameInUse (exec i s) (exec i t) := by
  rcases decode_byte0 b with ⟨-, e⟩ | ⟨hn, e⟩ <;> rw [e] at hd <;> cases hd
  rw [exec_instrOfRsv hn, exec_instrOfRsv hn]
  exact hc.raise _

theorem advance_agree {s t : State} (h : SameInUse s t) : Agree SameInUse (advance s) (advance t) := by
  unfold advance
  rw [headerInstr_eq h]
  split
  · rename_i i hi
    rcases headerInstr_cases hi with ⟨-, -, rest, hd⟩ | ⟨hs, -⟩
    · exact exec_byte0_agree h.control hd
    · exact exec_dispatch_agree h hs i
  · exact sequencerStep_agree h

/-- The host's moves are in no register. -/
theorem SameInUse.setHost {s t : State} (h : SameInUse s t) (ms : List HostMove) :
    SameInUse (s.setHost ms) (t.setHost ms) := by
  obtain ⟨hc, hf, hm⟩ := sameInUse_iff.mp h
  exact sameInUse_iff.mpr ⟨hc.setHost ms, hf, hm⟩

theorem SameInUse.destroy {s t : State} (h : SameInUse s t) : SameInUse s.destroy t.destroy := by
  obtain ⟨hc, hf, hm⟩ := sameInUse_iff.mp h
  exact sameInUse_iff.mpr ⟨{ hc with live := rfl }, hf, hm⟩

theorem SameControl.turn_eq {s t : State} (h : SameControl s t) : t.turn = s.turn := by
  unfold State.turn
  rw [h.host, h.seq]

/-- One step from states that agree on the registers in use answers alike. -/
theorem step_agree {s t : State} (h : SameInUse s t) : Agree SameInUse (step s) (step t) := by
  simp only [step, takeStep, h.control.turn_eq, ← h.control.live]
  split
  · exact exec_command_agree (h.setHost _).control _
  · exact (h.setHost _).destroy
  · exact advance_agree (h.setHost _)
  all_goals exact h.setHost _

/-- Outcomes that agree are next states that do, or one and the same stop. -/
theorem Agree.cases {rel : State → State → Prop} {o o' : Outcome} (h : Agree rel o o') :
    (∃ s t, o = .next s ∧ o' = .next t ∧ rel s t) ∨ (∃ r, o = .fault r ∧ o' = .fault r) ∨
      (∃ r, o = .refused r ∧ o' = .refused r) := by
  cases o with
  | next s =>
    cases o' with
    | next t => exact .inl ⟨s, t, rfl, rfl, h⟩
    | fault | refused => exact False.elim h
  | fault r =>
    cases o' with
    | fault r' => exact .inr (.inl ⟨r, rfl, by rw [show r = r' from h]⟩)
    | next | refused => exact False.elim h
  | refused r =>
    cases o' with
    | refused r' => exact .inr (.inr ⟨r, rfl, by rw [show r = r' from h]⟩)
    | next | fault => exact False.elim h

/-- Settles O49, by induction on the number of steps: one step from states that agree answers alike (`step_agree`). -/
theorem leftOverRegistersAreNeverObserved : Obligations.LeftOverRegistersAreNeverObserved := by
  intro k
  induction k with
  | zero => exact fun s t h => h
  | succ k ih =>
    intro s t h
    rw [run_succ, run_succ]
    rcases (step_agree h).cases with ⟨u, v, eu, ev, huv⟩ | ⟨r, e, e'⟩ | ⟨r, e, e'⟩
    · rw [eu, ev]
      exact ih u v huv
    · rw [e, e']
      rfl
    · rw [e, e']
      rfl

end Sys2Proof.Machine

namespace Sys2Proof.Machine

/-! ### What the stream holds when it answers -/

/-- A read's answer, the bytes `before` having been delivered ahead of it. -/
def ReadAnswer.after (before : List Byte) : ReadAnswer → ReadAnswer
  | .data bs rest => .data (before ++ bs) rest
  | .error e rest => .error e rest
  | .noAnswer => .noAnswer

/-- A read goes on behind the bytes it has met. -/
theorem streamRead_streamOf_append (before : List Byte) (n : Nat) (items : List StreamItem) :
    streamRead (before.length + n) (streamOf before ++ items) = (streamRead n items).after before := by
  induction before with
  | nil =>
    rw [List.length_nil, Nat.zero_add]
    show streamRead n items = _
    cases streamRead n items <;> rfl
  | cons b bs ih =>
    rw [List.length_cons, Nat.succ_add]
    show streamRead (bs.length + n + 1) (.byte b :: (streamOf bs ++ items)) = _
    rw [streamRead_succ_byte, ih]
    cases streamRead n items <;> rfl

/-- What an answer to a read of `n` bytes says of the stream: it starts with the bytes delivered, or fewer than `n` bytes
stand before the error, or before its end (R35, R47, R50). -/
def ReadAnswer.Says (n : Nat) (items : List StreamItem) : ReadAnswer → Prop
  | .data bytes rest => items = streamOf bytes ++ rest ∧ bytes.length = n
  | .error e rest => ∃ before : List Byte, before.length < n ∧ items = streamOf before ++ .err e :: rest
  | .noAnswer => ∃ before : List Byte, before.length < n ∧ items = streamOf before

/-- An answer says the same of a stream with one byte more in front, to a read of one byte more. -/
theorem ReadAnswer.Says.cons_byte {n : Nat} {items : List StreamItem} {a : ReadAnswer} (h : a.Says n items) (b : Byte) :
    (a.after [b]).Says (n + 1) (.byte b :: items) := by
  cases a with
  | data bs rest =>
    obtain ⟨hi, hl⟩ := h
    exact ⟨congrArg (StreamItem.byte b :: ·) hi, congrArg (· + 1) hl⟩
  | error e rest | noAnswer =>
    obtain ⟨before, hl, hi⟩ := h
    exact ⟨b :: before, Nat.succ_lt_succ hl, congrArg (StreamItem.byte b :: ·) hi⟩

/-- The stream's answer is right about the stream. -/
theorem streamRead_says (n : Nat) (items : List StreamItem) : (streamRead n items).Says n items := by
  induction items generalizing n with
  | nil =>
    cases n with
    | zero => exact ⟨rfl, rfl⟩
    | succ n => exact ⟨[], Nat.succ_pos n, rfl⟩
  | cons item items ih =>
    cases n with
    | zero =>
      rw [streamRead_zero]
      exact ⟨rfl, rfl⟩
    | succ n =>
      cases item with
      | err e => exact ⟨[], Nat.succ_pos n, rfl⟩
      | byte b =>
        have hstep : streamRead (n + 1) (.byte b :: items) = (streamRead n items).after [b] := by
          rw [Nat.add_comm]
          exact streamRead_streamOf_append [b] n items
        rw [hstep]
        exact (ih n).cons_byte b

/-- At most one answer is right about the stream: the stream's. -/
theorem ReadAnswer.Says.streamRead_eq {n : Nat} {items : List StreamItem} {a : ReadAnswer} (h : a.Says n items) :
    streamRead n items = a := by
  cases a with
  | data bs rest =>
    obtain ⟨rfl, rfl⟩ := h
    have e := streamRead_streamOf_append bs 0 rest
    rw [streamRead_zero] at e
    exact e.trans (by rw [after, List.append_nil])
  | error e rest =>
    obtain ⟨before, hl, rfl⟩ := h
    obtain ⟨k, rfl⟩ := Nat.exists_eq_add_of_lt hl
    exact streamRead_streamOf_append before (k + 1) (.err e :: rest)
  | noAnswer =>
    obtain ⟨before, hl, rfl⟩ := h
    obtain ⟨k, rfl⟩ := Nat.exists_eq_add_of_lt hl
    have e := streamRead_streamOf_append before (k + 1) []
    rwa [List.append_nil] at e

/-- A read is answered by what the stream holds, and by nothing else. -/
theorem streamRead_eq_iff {n : Nat} {items : List StreamItem} {a : ReadAnswer} :
    streamRead n items = a ↔ a.Says n items :=
  ⟨fun h => h ▸ streamRead_says n items, fun h => h.streamRead_eq⟩

/-- Settles O17: each of its clauses is what one form of answer says of the stream. -/
theorem streamReadIsAllOrNothing : Obligations.StreamReadIsAllOrNothing := fun _ _ =>
  ⟨fun _ _ => streamRead_eq_iff, fun _ _ => streamRead_eq_iff, streamRead_eq_iff⟩

/-! ### The read on the port -/

/-- The reads of R82, R84, R85, R88 and R89, each with its size. -/
theorem pendingRead_eq_some_iff {s : State} {n : Nat} :
    s.pendingRead = some n ↔
      (s.seq = .fdH0 ∧ s.answered = false ∧ n = 1) ∨
      (s.seq = .fdH1 ∧ s.answered = false ∧ n = 1) ∨
      (s.seq = .fdX16 ∧ s.answered = false ∧ n = 2) ∨
      (s.seq = .fdX64 ∧ s.answered = false ∧ n = 8) ∨
      (s.seq = .fdKey ∧ s.masked = true ∧ n = 4) ∨
      (s.seq = .fdPay ∧ s.answered = false ∧ 0 < s.plen.toNat ∧ n = s.plen.toNat) := by
  unfold State.pendingRead
  split <;> simp_all [Config.keyBytes, @eq_comm _ n]

/-- Settles O27: the sizes but the payload's are 1, 2, 4 and 8, and the payload's is the accepted length (R86), not 0. -/
theorem readRequestsAreInRange : Obligations.ReadRequestsAreInRange := by
  intro s n hi hp
  rcases pendingRead_eq_some_iff.mp hp with
    ⟨-, -, rfl⟩ | ⟨-, -, rfl⟩ | ⟨-, -, rfl⟩ | ⟨-, -, rfl⟩ | ⟨-, -, rfl⟩ | ⟨hs, -, hpos, rfl⟩
  iterate 5 decide
  · obtain ⟨-, -, hlt, -⟩ := hi.length_resolved (by rw [hs]; rfl)
    omega

/-- The block's own step leaves the stream alone, or the read on the port is answered: with data, or with an error that
ends the command. -/
theorem BlockStep.stream_cases {s t : State} (h : BlockStep s t) :
    t.stream = s.stream ∨
    ∃ n, s.pendingRead = some n ∧
      ((∃ bs, streamRead n s.stream = .data bs t.stream) ∨
       (∃ e, streamRead n s.stream = .error e t.stream ∧ t.res = .err (.transport e) ∧ t.seq = .done)) := by
  cases h with
  | error n e rest hp hr => exact .inr ⟨n, hp, .inr ⟨e, hr, rfl, rfl⟩⟩
  | gotH0 bs rest hs ha hr | gotH1 bs rest hs ha hr | gotX16 bs rest hs ha hr | gotX64 bs rest hs ha hr
  | gotKey bs rest hs ha hr =>
    exact .inr ⟨_, pendingRead_eq_some_iff.mpr (by simp [hs, ha]), .inl ⟨bs, hr⟩⟩
  | gotPayload bs rest hs ha hn hr =>
    exact .inr ⟨_, pendingRead_eq_some_iff.mpr (by simp [hs, ha, hn]), .inl ⟨bs, hr⟩⟩
  | _ => exact .inl (by simp)

/-- Settles O28: the host's moves leave the stream alone, and so does the block but for the read on the port, whose answer
says what was taken. -/
theorem streamIsConsumedOnlyByReads : Obligations.StreamIsConsumedOnlyByReads := by
  intro s t h
  rcases step_next h with ⟨-, ms, rfl⟩ | ⟨-, c, ms, -, ha⟩ | ⟨-, ms, -, rfl⟩ | ⟨-, ms, -, hb⟩
  · exact .inl rfl
  · exact .inl (by cases ha <;> rfl)
  · exact .inl rfl
  · rcases hb.stream_cases with hkeep | ⟨n, hp, ⟨bs, hr⟩ | ⟨e, hr, hres, hdone⟩⟩
    · exact .inl hkeep
    · obtain ⟨hi, hl⟩ := streamRead_eq_iff.mp hr
      exact .inr ⟨n, hp, .inl ⟨bs, hl, hi⟩⟩
    · obtain ⟨before, hl, hi⟩ := streamRead_eq_iff.mp hr
      exact .inr ⟨n, hp, .inr ⟨before, e, hl, hi, hres, hdone⟩⟩

/-- With a read on the port no header is due, and the block's own step is that read. -/
theorem advance_of_pendingRead {s : State} {n : Nat} (h : s.pendingRead = some n) :
    ∃ k, advance s = readThen n s k := by
  rcases pendingRead_eq_some_iff.mp h with
    ⟨hs, ha, rfl⟩ | ⟨hs, ha, rfl⟩ | ⟨hs, ha, rfl⟩ | ⟨hs, ha, rfl⟩ | ⟨hs, hm, rfl⟩ | ⟨hs, ha, hn, rfl⟩ <;>
    rw [advance_sequencer (by simp [hs]) (by simp [*])]
  iterate 4 exact ⟨_, by simp only [sequencerStep, hs, ha]; rfl⟩
  · exact ⟨_, by simp only [sequencerStep, hs, readKey, hm, if_true]; rfl⟩
  · exact ⟨_, by simp only [sequencerStep, hs, ha, readPayload, hn, if_true]; rfl⟩

/-- Settles O20: the block's own step is the read on the port, and an unanswered read holds the state. -/
theorem unansweredReadHoldsEveryRegister : Obligations.UnansweredReadHoldsEveryRegister := by
  intro s ms hl ht hw
  obtain ⟨n, hp, hr⟩ := hw
  obtain ⟨k, hk⟩ := advance_of_pendingRead (s := s.setHost ms) hp
  rw [step_quiet hl ht, hk, readThen, State.setHost_stream, hr]
  rfl

/-! ### Reads that are not issued -/

/-- At `FD_KEY` of an unmasked frame the block goes on without a read (R88). -/
theorem advance_noKey {s : State} (hs : s.seq = .fdKey) (hm : s.masked = false) :
    advance s = .next (s.goto .fdPay) := by
  rw [advance_sequencer (by simp [hs]) (by simp [hs])]
  simp [sequencerStep, hs, readKey, hm]

/-- At `FD_PAY` with an empty payload the block goes on without a read (R37, R90). -/
theorem advance_noPayload {s : State} (hs : s.seq = .fdPay) (ha : s.answered = false) (hn : s.plen = 0) :
    advance s = .next ((s.setPbuf []).goto .fdEnd) := by
  rw [advance_sequencer (by simp [hs]) (by simp [hs])]
  simp [sequencerStep, hs, ha, readPayload, hn]

/-- Settles O24, state by state: the port has no read, and the block's own step is the one that skips it. -/
theorem unneededReadsAreSkipped : Obligations.UnneededReadsAreSkipped := by
  intro s ms hl ht
  refine ⟨fun hs hm => ⟨?_, ?_⟩, fun hs ha hn => ⟨?_, ?_⟩⟩
  · simp [State.pendingRead, hs, hm]
  · rw [step_quiet hl ht, advance_noKey (s := s.setHost ms) hs hm]
    rfl
  · simp [State.pendingRead, hs, ha, hn]
  · rw [step_quiet hl ht, advance_noPayload (s := s.setHost ms) hs ha hn]
    rfl

end Sys2Proof.Machine

namespace Sys2Proof

/-! ### Header bytes and their fields (R57)

The extractors of R79 and R80 and the layout of R57 are inverse to each other, byte by byte. -/

@[simp] theorem hx0_byte0 (fin : Bool) (rsv : BitVec 3) (opc : BitVec 4) : hx0 (byte0 fin rsv opc) = ⟨fin, rsv, opc⟩ := by
  revert fin rsv opc; decide

@[simp] theorem hx1_byte1 (masked : Bool) (len7 : BitVec 7) : hx1 (byte1 masked len7) = ⟨masked, len7⟩ := by
  revert masked len7; decide

@[simp] theorem byte0_hx0 (b : Byte) : byte0 (hx0 b).fin (hx0 b).rsv (hx0 b).opc = b := by
  revert b; decide

@[simp] theorem byte1_hx1 (b : Byte) : byte1 (hx1 b).mask (hx1 b).len7 = b := by
  revert b; decide

/-- A header with a reserved bit set is its byte 0 alone (R65): byte 1 is not looked at. -/
theorem decode_of_rsv_ne_zero {b : Byte} (h : (hx0 b).rsv ≠ 0) (rest : List Byte) :
    decode (b :: rest) = .ok (instrOfRsv (hx0 b), rest) := by
  simp only [decode, if_neg h]

/-- A header with clear reserved bits is its two bytes. -/
theorem decode_of_rsv_zero {b0 : Byte} (h : (hx0 b0).rsv = 0) (b1 : Byte) (rest : List Byte) :
    decode (b0 :: b1 :: rest) =
      .ok (instrOfOpcode (hx0 b0).opc (hx0 b0).fin (hx1 b1).mask (hx1 b1).len7, rest) := by
  simp only [decode, if_pos h]

/-- Every way bytes decode (R64, R65). -/
theorem decode_ok_cases {bytes rest : List Byte} {i : Instr} (h : decode bytes = .ok (i, rest)) :
    (∃ b0 b1, (hx0 b0).rsv = 0 ∧ bytes = b0 :: b1 :: rest ∧
      i = instrOfOpcode (hx0 b0).opc (hx0 b0).fin (hx1 b1).mask (hx1 b1).len7) ∨
    (∃ b0, (hx0 b0).rsv ≠ 0 ∧ bytes = b0 :: rest ∧ i = instrOfRsv (hx0 b0)) := by
  match bytes with
  | [] => cases h
  | b0 :: tail =>
    by_cases hr : (hx0 b0).rsv = 0
    · match tail with
      | [] => simp only [decode, if_pos hr] at h; cases h
      | b1 :: tail =>
        rw [decode_of_rsv_zero hr] at h
        cases h
        exact .inl ⟨b0, b1, hr, rfl, rfl⟩
    · rw [decode_of_rsv_ne_zero hr] at h
      cases h
      exact .inr ⟨b0, hr, rfl, rfl⟩

/-! ### The encoder writes what the decoder reads -/

/-- The opcode map of R63 read backwards. -/
theorem encode_instrOfOpcode (opc : BitVec 4) (fin masked : Bool) (len7 : BitVec 7) :
    encode (instrOfOpcode opc fin masked len7) = .wire [byte0 fin 0 opc, byte1 masked len7] := by
  obtain ⟨n, hn⟩ := opc
  interval_cases n <;> rfl

/-- The row of a header byte 0 with a reserved bit set, by the first bit set (R65). -/
theorem instrOfRsv_rsvBits (fin r1 r2 r3 : Bool) (opc : BitVec 4) :
    instrOfRsv ⟨fin, rsvBits r1 r2 r3, opc⟩ =
      if r1 then .rsv1Set fin r2 r3 opc else if r2 then .rsv2Set fin r3 opc else .rsv3Set fin opc := by
  have hbits : (rsvBits r1 r2 r3).getLsbD 2 = r1 ∧ (rsvBits r1 r2 r3).getLsbD 1 = r2 ∧
      (rsvBits r1 r2 r3).getLsbD 0 = r3 := by revert r1 r2 r3; decide
  obtain ⟨h2, h1, h0⟩ := hbits
  rw [instrOfRsv, h2, h1, h0]

/-- The reserved-bit rows of R65 read backwards. -/
theorem encode_instrOfRsv {x : Hdr0} (h : x.rsv ≠ 0) :
    encode (instrOfRsv x) = .wire [byte0 x.fin x.rsv x.opc] := by
  obtain ⟨fin, rsv, opc⟩ := x
  obtain ⟨r1, r2, r3, rfl⟩ : ∃ r1 r2 r3, rsv = rsvBits r1 r2 r3 := ⟨_, _, _, (Machine.rsvBits_getLsbD rsv).symm⟩
  rw [instrOfRsv_rsvBits]
  match r1, r2, r3 with
  | true, _, _ => rfl
  | false, true, _ => rfl
  | false, false, true => rfl
  | false, false, false => exact absurd rfl h

/-- What was read as an instruction with clear reserved bits is written as the same two bytes. -/
theorem encode_header_of_rsv_zero {b0 : Byte} (h : (hx0 b0).rsv = 0) (b1 : Byte) :
    encode (instrOfOpcode (hx0 b0).opc (hx0 b0).fin (hx1 b1).mask (hx1 b1).len7) = .wire [b0, b1] := by
  rw [encode_instrOfOpcode, ← h, byte0_hx0, byte1_hx1]

/-- What was read as an instruction with a reserved bit set is written as the same byte. -/
theorem encode_header_of_rsv_ne_zero {b : Byte} (h : (hx0 b).rsv ≠ 0) :
    encode (instrOfRsv (hx0 b)) = .wire [b] := by
  rw [encode_instrOfRsv h, byte0_hx0]

/-- Settles O13: by the two ways bytes decode, with two header bytes and with one. -/
theorem encodingADecodingGivesTheBytes : Obligations.EncodingADecodingGivesTheBytes := by
  intro bytes rest i h
  rcases decode_ok_cases h with ⟨b0, b1, hr, rfl, rfl⟩ | ⟨b0, hr, rfl, rfl⟩
  · exact ⟨[b0, b1], encode_header_of_rsv_zero hr b1, rfl⟩
  · exact ⟨[b0], encode_header_of_rsv_ne_zero hr, rfl⟩

/-! ### The decoder reads what the encoder writes -/

/-- A two-byte header is read by its opcode, whatever follows it. -/
theorem decode_byte0_byte1 (opc : BitVec 4) (fin masked : Bool) (len7 : BitVec 7) (rest : List Byte) :
    decode (byte0 fin 0 opc :: byte1 masked len7 :: rest) = .ok (instrOfOpcode opc fin masked len7, rest) := by
  rw [decode_of_rsv_zero (by rw [hx0_byte0]), hx0_byte0, hx1_byte1]

/-- A header byte 0 with a reserved bit set is read by those bits, whatever follows it. -/
theorem decode_byte0_rsvBits {r1 r2 r3 : Bool} (h : (r1 || r2 || r3) = true) (fin : Bool) (opc : BitVec 4)
    (rest : List Byte) :
    decode (byte0 fin (rsvBits r1 r2 r3) opc :: rest) =
      .ok (if r1 then .rsv1Set fin r2 r3 opc else if r2 then .rsv2Set fin r3 opc else .rsv3Set fin opc, rest) := by
  have hne : rsvBits r1 r2 r3 ≠ 0 := by revert r1 r2 r3; decide
  rw [decode_of_rsv_ne_zero (by rwa [hx0_byte0]), hx0_byte0, instrOfRsv_rsvBits]

/-- Header bytes are read back as the instruction they were written for, whatever follows them. -/
theorem decode_of_encode_eq_wire {i : Instr} {bytes : List Byte} (h : encode i = .wire bytes) (rest : List Byte) :
    decode (bytes ++ rest) = .ok (i, rest) := by
  cases i with
  | cont fin masked len7 | text fin masked len7 | binary fin masked len7 | rsvd3 fin masked len7
  | rsvd4 fin masked len7 | rsvd5 fin masked len7 | rsvd6 fin masked len7 | rsvd7 fin masked len7
  | close fin masked len7 | ping fin masked len7 | pong fin masked len7 | rsvdB fin masked len7
  | rsvdC fin masked len7 | rsvdD fin masked len7 | rsvdE fin masked len7 | rsvdF fin masked len7 =>
    cases h
    exact decode_byte0_byte1 _ fin masked len7 rest
  | rsv1Set fin rsv2 rsv3 opc | rsv2Set fin rsv3 opc | rsv3Set fin opc =>
    cases h
    exact decode_byte0_rsvBits rfl fin opc rest
  | unmask key ofs data | decodeFrame | readMessage => cases h

/-- A host command is written for the instruction it is (R68). -/
theorem toInstr_of_encode_eq_port {i : Instr} {c : Command} (h : encode i = .port c) : c.toInstr = i := by
  cases i with
  | unmask key ofs data | decodeFrame | readMessage =>
    cases h
    rfl
  | _ => cases h

/-- Settles O12: header bytes are read back with nothing after them or with anything, a command as itself. -/
theorem decodingAnEncodingGivesTheInstruction : Obligations.DecodingAnEncodingGivesTheInstruction := by
  intro i _
  refine ⟨?_, fun bytes rest h => decode_of_encode_eq_wire h rest⟩
  cases h : encode i with
  | wire bytes =>
    have hd := decode_of_encode_eq_wire h []
    rwa [List.append_nil] at hd
  | port c => rw [decodeCode, toInstr_of_encode_eq_port h]

/-- Settles O14: the decoder evaluated on each header. -/
theorem writtenOutHeadersDecode : Obligations.WrittenOutHeadersDecode :=
  ⟨rfl, rfl, rfl, rfl, rfl, rfl, rfl, rfl, rfl, rfl, rfl⟩

/-! ### The opcode table covers each header word once -/

/-- A word covered by two rows has the bits that both masks look at in common with both values. -/
theorem Row.value_and_mask_of_covers {r r' : Row} {hw : BitVec 16} (h : r.covers hw = true) (h' : r'.covers hw = true) :
    r.value &&& r'.mask = r'.value &&& r.mask := by
  simp only [Row.covers, decide_eq_true_eq] at h h'
  rw [← h, ← h', BitVec.and_assoc, BitVec.and_assoc, BitVec.and_comm r.mask]

/-- Any two rows of the table ask for different values of some bit that both look at. -/
theorem opcodeRows_pairwise_ne : opcodeRows.Pairwise fun r r' => r.value &&& r'.mask ≠ r'.value &&& r.mask := by
  decide

/-- A row that covers a word is the only one. -/
theorem filter_covers_eq {r : Row} {hw : BitVec 16} (hr : r ∈ opcodeRows) (hc : r.covers hw = true) :
    opcodeRows.filter (·.covers hw) = [r] := by
  have hmem : r ∈ opcodeRows.filter (·.covers hw) := List.mem_filter.mpr ⟨hr, hc⟩
  have hall : ∀ x ∈ opcodeRows.filter (·.covers hw), x.covers hw = true := fun x hx => (List.mem_filter.mp hx).2
  have hpair := opcodeRows_pairwise_ne.filter (·.covers hw)
  generalize opcodeRows.filter (·.covers hw) = covering at hmem hall hpair
  match covering with
  | [] => cases hmem
  | [x] => rw [List.mem_singleton.mp hmem]
  | x :: y :: _ =>
    exact absurd (Row.value_and_mask_of_covers (hall x (by simp)) (hall y (by simp)))
      (List.rel_of_pairwise_cons hpair (by simp))

/-- The laws of Laws/PerInstr.lean together: every encoding lies in its instruction's own row. -/
theorem encode_inRow (i : Instr) : Laws.TableRow.Statement i := by
  cases i with
  | cont => exact Laws.TableRow.cont _ _ _
  | text => exact Laws.TableRow.text _ _ _
  | binary => exact Laws.TableRow.binary _ _ _
  | rsvd3 => exact Laws.TableRow.rsvd3 _ _ _
  | rsvd4 => exact Laws.TableRow.rsvd4 _ _ _
  | rsvd5 => exact Laws.TableRow.rsvd5 _ _ _
  | rsvd6 => exact Laws.TableRow.rsvd6 _ _ _
  | rsvd7 => exact Laws.TableRow.rsvd7 _ _ _
  | close => exact Laws.TableRow.close _ _ _
  | ping => exact Laws.TableRow.ping _ _ _
  | pong => exact Laws.TableRow.pong _ _ _
  | rsvdB => exact Laws.TableRow.rsvdB _ _ _
  | rsvdC => exact Laws.TableRow.rsvdC _ _ _
  | rsvdD => exact Laws.TableRow.rsvdD _ _ _
  | rsvdE => exact Laws.TableRow.rsvdE _ _ _
  | rsvdF => exact Laws.TableRow.rsvdF _ _ _
  | rsv1Set => exact Laws.TableRow.rsv1Set _ _ _ _
  | rsv2Set => exact Laws.TableRow.rsv2Set _ _ _
  | rsv3Set => exact Laws.TableRow.rsv3Set _ _
  | unmask => exact Laws.TableRow.unmask _ _ _
  | decodeFrame => exact Laws.TableRow.decodeFrame
  | readMessage => exact Laws.TableRow.readMessage

theorem inRow_of_encode_eq_wire {i : Instr} {bytes : List Byte} (h : encode i = .wire bytes) (unread : Byte) :
    Laws.InRow i.mnemonic (Laws.headerWord bytes unread) := by
  have hrow := encode_inRow i
  rw [Laws.TableRow.Statement, h] at hrow
  exact hrow unread

/-- Two header bytes decode, to an instruction whose row covers their word. -/
theorem decode_header_inRow (b0 b1 : Byte) :
    ∃ i rest, decode [b0, b1] = .ok (i, rest) ∧ Laws.InRow i.mnemonic (b0 ++ b1) := by
  by_cases hr : (hx0 b0).rsv = 0
  · exact ⟨_, _, decode_of_rsv_zero hr b1 [], inRow_of_encode_eq_wire (encode_header_of_rsv_zero hr b1) b1⟩
  · exact ⟨_, _, decode_of_rsv_ne_zero hr [b1], inRow_of_encode_eq_wire (encode_header_of_rsv_ne_zero hr) b1⟩

/-- The two stream bytes of a header word, put together again (R58). -/
theorem headerWordBytes_append (hw : BitVec 16) : (hw.extractLsb' 8 8 ++ hw.extractLsb' 0 8 : BitVec 16) = hw := by
  exact (BitVec.extractLsb'_append_extractLsb'_eq_extractLsb' rfl).trans BitVec.extractLsb'_eq_self

/-- Settles O11: the row of the decoded instruction covers the word, and no two rows cover one word. -/
theorem decoderFollowsTheOpcodeTable : Obligations.DecoderFollowsTheOpcodeTable := by
  intro hw
  obtain ⟨i, rest, hd, r, hr, hm, hc⟩ := decode_header_inRow (hw.extractLsb' 8 8) (hw.extractLsb' 0 8)
  rw [headerWordBytes_append] at hc
  exact ⟨i, rest, hd, by rw [filter_covers_eq hr hc, List.map_singleton, hm]⟩

end Sys2Proof

namespace Sys2Proof.Machine

/-! ### A placed header word is what the next step runs -/

@[simp] theorem quietHost_live (s : State) : s.quietHost.live = s.live := by
  unfold State.quietHost
  split <;> rfl

@[simp] theorem placeHeader_live (s : State) (hw : BitVec 16) : (s.placeHeader hw).live = true := by
  dsimp only [State.placeHeader]
  split_ifs <;> exact quietHost_live _

theorem placeHeader_host (s : State) (hw : BitVec 16) :
    (s.placeHeader hw).host = ({ s with live := true }.quietHost).host := by
  dsimp only [State.placeHeader]
  split_ifs <;> rfl

/-- A word with clear reserved bits stands in both header registers at the dispatch (log 6). -/
theorem placeHeader_headerBytes_of_rsv_zero {hw : BitVec 16} (h : (hx0 (hw.extractLsb' 8 8)).rsv = 0) (s : State) :
    (s.placeHeader hw).headerBytes = headerWordBytes hw := by
  dsimp only [State.placeHeader]
  rw [if_pos h]
  split_ifs <;> rfl

/-- A word with a reserved bit set stands in `H0` at FDEC's check (log 6). -/
theorem placeHeader_headerBytes_of_rsv_ne_zero {hw : BitVec 16} (h : (hx0 (hw.extractLsb' 8 8)).rsv ≠ 0) (s : State) :
    (s.placeHeader hw).headerBytes = [hw.extractLsb' 8 8] := by
  dsimp only [State.placeHeader]
  rw [if_neg h]
  rfl

/-- A placed word is the header due: what its bytes decode to is what the block decodes. -/
theorem placeHeader_headerInstr {hw : BitVec 16} {i : Instr} {rest : List Byte}
    (h : decode (headerWordBytes hw) = .ok (i, rest)) (s : State) : (s.placeHeader hw).headerInstr = some i := by
  rw [State.headerInstr]
  by_cases hr : (hx0 (hw.extractLsb' 8 8)).rsv = 0
  · rw [placeHeader_headerBytes_of_rsv_zero hr, h]
  · rw [placeHeader_headerBytes_of_rsv_ne_zero hr, decode_of_rsv_ne_zero hr]
    rw [headerWordBytes, decode_of_rsv_ne_zero hr] at h
    cases h
    rfl

/-- With no host move left and a header due, a step is the header's meaning. -/
theorem step_of_headerInstr {s : State} {i : Instr} (hl : s.live = true) (hh : s.host = [])
    (hi : s.headerInstr = some i) : step s = exec i s := by
  have hkeep : s.setHost [] = s := by rw [← hh]; rfl
  rw [step_quiet (ms := []) hl (by rw [State.turn, hh]), hkeep, advance_of_headerInstr hi]

/-- A table word decodes to the instruction its header word decodes to. -/
theorem decode_of_decodeTableWord {nbits w : Nat} {i : Instr} (h : decodeTableWord nbits w = some i) :
    ∃ rest, decode (headerWordBytes (tableHeaderWord nbits w)) = .ok (i, rest) := by
  unfold decodeTableWord at h
  split at h
  · rename_i rest hd
    cases h
    exact ⟨rest, hd⟩
  · cases h

/-- Settles O15: the word's header is in place, and the reset state's host is quiet. -/
theorem placedTableWordRunsNext : Obligations.PlacedTableWordRunsNext := by
  intro w i h
  obtain ⟨rest, hd⟩ := decode_of_decodeTableWord h
  exact step_of_headerInstr (placeHeader_live _ _) (placeHeader_host _ _) (placeHeader_headerInstr hd _)

end Sys2Proof.Machine

namespace Sys2Proof

/-! ### Whole frames on the wire (R56, R68) -/

/-- A key applied twice at the same offset cancels (R76). -/
theorem unmBytes_unmBytes (key : MaskKey) (ofs : BitVec 2) (buf : List Byte) :
    unmBytes key ofs (unmBytes key ofs buf) = buf := by
  induction buf generalizing ofs with
  | nil => rfl
  | cons b bs ih => rw [unmBytes, unmBytes, ih, BitVec.xor_assoc, BitVec.xor_self, BitVec.xor_zero]

/-- The two extended-length bytes give back a 16-bit length (R41). -/
theorem be16_ext16Bytes {n : Nat} (h : n < 2 ^ 16) : be16 (ext16Bytes n) = n := by
  simp only [be16, ext16Bytes, List.getD_cons_zero, List.getD_cons_succ, BitVec.toNat_ofNat]
  omega

/-- The eight extended-length bytes give back a 64-bit length (R41). -/
theorem be64_ext64Bytes {n : Nat} (h : n < 2 ^ 64) : be64 (ext64Bytes n) = n := by
  simp only [be64, ext64Bytes, List.getD_cons_zero, List.getD_cons_succ, BitVec.toNat_ofNat]
  omega

namespace WireFrame

theorem rsv_eq_zero {f : WireFrame} (h : f.wf = true) : f.rsv = 0 :=
  of_decide_eq_true (Bool.and_eq_true_iff.mp h).1

/-- What stands for the length of a well-formed frame: the length itself, or an escape and the extended length (R61). -/
theorem length_cases {f : WireFrame} (h : f.wf = true) :
    (f.extBytes = [] ∧ f.len7.toNat = f.payload.length ∧ f.payload.length ≤ 125) ∨
    (f.extBytes = ext16Bytes f.payload.length ∧ f.len7.toNat = 126 ∧ f.payload.length < 2 ^ 16) ∨
    (f.extBytes = ext64Bytes f.payload.length ∧ f.len7.toNat = 127 ∧ f.payload.length < 2 ^ 63) := by
  have hfits : f.lengthFits = true := (Bool.and_eq_true_iff.mp h).2
  unfold lengthFits at hfits
  unfold extBytes len7
  cases hform : f.form <;> rw [hform] at hfits <;> have hn := of_decide_eq_true hfits
  · have hn : f.payload.length ≤ 125 := hn
    exact .inl ⟨rfl, by rw [BitVec.toNat_ofNat]; omega, hn⟩
  · exact .inr (.inl ⟨rfl, rfl, hn⟩)
  · have hn : f.payload.length ≤ 2 ^ 63 - 1 := hn
    exact .inr (.inr ⟨rfl, rfl, by omega⟩)

theorem payload_length_lt {f : WireFrame} (h : f.wf = true) : f.payload.length < 2 ^ 63 := by
  rcases length_cases h with ⟨-, -, hn⟩ | ⟨-, -, hn⟩ | ⟨-, -, hn⟩ <;> omega

@[simp] theorem sentPayload_length (f : WireFrame) : f.sentPayload.length = f.payload.length := by
  cases hk : f.key <;> simp [sentPayload, hk, unm]

@[simp] theorem keyBytes_length (f : WireFrame) : f.keyBytes.length = if f.masked then 4 else 0 := by
  cases hk : f.key <;> simp [keyBytes, masked, hk, MaskKey.bytes]

/-- The bytes before the payload (R56). -/
def headerBytes (f : WireFrame) : List Byte :=
  [byte0 f.fin f.rsv f.opc, byte1 f.masked f.len7] ++ f.extBytes ++ f.keyBytes

theorem bytes_eq (f : WireFrame) : f.bytes = f.headerBytes ++ f.sentPayload := rfl

/-- The table of R59: the format says how many bytes stand before the payload. -/
theorem headerBytes_length {f : WireFrame} (h : f.wf = true) :
    f.headerBytes.length = (formatOf f.len7 f.masked).headerBytes := by
  have hlen : f.headerBytes.length = 2 + f.extBytes.length + if f.masked then 4 else 0 := by
    simp only [headerBytes, List.length_append, List.length_cons, List.length_nil, keyBytes_length]
  rw [hlen, formatOf]
  rcases length_cases h with ⟨he, hl, hn⟩ | ⟨he, hl, -⟩ | ⟨he, hl, -⟩ <;> rw [he, hl]
  · rw [if_pos (show _ ≤ Config.lenDirectMax from hn)]
    cases f.masked <;> rfl
  · cases f.masked <;> rfl
  · cases f.masked <;> rfl

end WireFrame

/-- Settles O57: the header's length is its format's, and the payload as sent is as long as the payload. -/
theorem frameLengthIsHeaderAndPayload : Obligations.FrameLengthIsHeaderAndPayload := by
  intro f h
  rw [f.bytes_eq, ← WireFrame.headerBytes_length h]
  exact ⟨by rw [List.length_append, f.sentPayload_length], List.drop_left⟩

end Sys2Proof

namespace Sys2Proof.Machine

/-! ### The listing of FDEC on a sent frame (R94) -/

/-- A read of the listing takes the bytes in front of the stream (R35). -/
theorem listRead_streamOf (bytes : List Byte) {n : Nat} (hn : bytes.length = n) (key : MaskKey) (items : List StreamItem)
    (k : List Byte → List StreamItem → FrameEnd) : listRead n key (streamOf bytes ++ items) k = k bytes items := by
  have hr : streamRead n (streamOf bytes ++ items) = .data bytes items := streamRead_eq_iff.mpr ⟨rfl, hn⟩
  rw [listRead, hr]

/-- From the payload read on: the payload, unmasked in a masked frame; an empty one without a read (R37). -/
theorem listPayload_streamOf (b0 b1 : Byte) (payload : List Byte) (key : MaskKey) (items : List StreamItem) :
    listPayload b0 b1 payload.length key (streamOf payload ++ items) =
      .frame { fin := (hx0 b0).fin, opcode := (hx0 b0).opc, masked := (hx1 b1).mask,
               payload := if (hx1 b1).mask = true then (unm key 0 payload).1 else payload } key items := by
  cases payload with
  | nil => simp [listPayload, streamOf, unm, unmBytes]
  | cons b bs => rw [listPayload, if_pos (by simp), listRead_streamOf _ rfl]

/-- From the length checks on: the key of a masked frame, then its payload. -/
theorem listTail_sent {f : WireFrame} {cap : Option Nat} (hn : f.payload.length < 2 ^ 63)
    (hc : exceeds cap f.payload.length = false) (rsv : BitVec 3) (len7 : BitVec 7) (key : MaskKey)
    (rest : List StreamItem) :
    listTail cap (byte0 f.fin rsv f.opc) (byte1 f.masked len7) f.payload.length key
        (streamOf f.keyBytes ++ (streamOf f.sentPayload ++ rest)) =
      .frame { fin := f.fin, opcode := f.opc, masked := f.key.isSome, payload := f.payload } (f.key.getD key) rest := by
  rw [listTail, if_neg (by omega), hc, if_neg Bool.false_ne_true, hx1_byte1, ← f.sentPayload_length]
  cases hk : f.key with
  | none =>
    simp only [WireFrame.masked, hk, Option.isSome_none, Bool.false_eq_true, if_false, WireFrame.keyBytes]
    refine (listPayload_streamOf _ _ f.sentPayload key rest).trans ?_
    simp [WireFrame.sentPayload, hk]
  | some k =>
    have hlen : k.bytes.length = 4 := rfl
    simp only [WireFrame.masked, hk, Option.isSome_some, if_true, WireFrame.keyBytes]
    rw [listRead_streamOf _ hlen, listPayload_streamOf]
    simp [WireFrame.sentPayload, hk, unm, unmBytes_unmBytes, MaskKey.bytes, MaskKey.ofBytes]

/-- The listing on a header with clear reserved bits goes on with the length that stands there (R61, R85). -/
theorem decodeFrameListing_header {f : WireFrame} (h : f.wf = true) (cap : Option Nat) (key : MaskKey)
    (items : List StreamItem) :
    decodeFrameListing cap key (streamOf [byte0 f.fin f.rsv f.opc] ++ (streamOf [byte1 f.masked f.len7] ++
        (streamOf f.extBytes ++ items))) =
      listTail cap (byte0 f.fin f.rsv f.opc) (byte1 f.masked f.len7) f.payload.length key items := by
  rw [decodeFrameListing, listRead_streamOf (n := 1) [byte0 f.fin f.rsv f.opc] rfl]
  simp only [List.getD_cons_zero]
  rw [hx0_byte0, if_neg (not_not.mpr (WireFrame.rsv_eq_zero h)),
    listRead_streamOf (n := 1) [byte1 f.masked f.len7] rfl]
  simp only [List.getD_cons_zero]
  rw [hx1_byte1]
  dsimp only
  rcases WireFrame.length_cases h with ⟨he, hl, hn⟩ | ⟨he, hl, hn⟩ | ⟨he, hl, hn⟩ <;> rw [he, hl]
  · rw [if_pos hn]
    rfl
  · rw [if_neg (by decide), if_pos rfl, listRead_streamOf (n := 2) (ext16Bytes _) rfl, be16_ext16Bytes hn]
  · rw [if_neg (by decide), if_neg (by decide), listRead_streamOf (n := 8) (ext64Bytes _) rfl, be64_ext64Bytes (by omega)]

/-- Settles O56: the listing reads the header, the extended length, the key and the payload, each as it was sent. -/
theorem sentFrameDecodesToItself : Obligations.SentFrameDecodesToItself := by
  intro f cap key rest h hc
  have hparts : streamOf f.bytes ++ rest =
      streamOf [byte0 f.fin f.rsv f.opc] ++ (streamOf [byte1 f.masked f.len7] ++
        (streamOf f.extBytes ++ (streamOf f.keyBytes ++ (streamOf f.sentPayload ++ rest)))) := by
    simp [WireFrame.bytes, streamOf]
  rw [hparts, decodeFrameListing_header h, listTail_sent (WireFrame.payload_length_lt h) hc]

end Sys2Proof.Machine

namespace Sys2Proof

/-! ### UNM: bytes, rolling offset, chunks (R69, R75, R76) -/

/-- The key byte of a position is the one at its index mod 4 in the key written out (R70). -/
theorem MaskKey.bytes_getElem?_mod (key : MaskKey) (n : Nat) : key.bytes[n % 4]? = some (key.lane n) := by
  have hn : n % 4 < 4 := Nat.mod_lt _ (by decide)
  unfold MaskKey.lane
  generalize n % 4 = m at hn
  match m, hn with
  | 0, _ => rfl
  | 1, _ => rfl
  | 2, _ => rfl
  | 3, _ => rfl

/-- The wrap of the offset from 3 to 0 does not change which key byte comes next. -/
theorem MaskKey.lane_succ_ofs (key : MaskKey) (ofs : BitVec 2) (i : Nat) :
    key.lane ((ofs + 1).toNat + i) = key.lane (ofs.toNat + (i + 1)) := by
  have hmod : ((ofs + 1).toNat + i) % 4 = (ofs.toNat + (i + 1)) % 4 := by
    rw [BitVec.toNat_add, show (1 : BitVec 2).toNat = 1 from rfl]
    omega
  rw [lane, lane, hmod]

/-- UNM byte by byte (R69). -/
theorem unmBytes_getElem? (key : MaskKey) (ofs : BitVec 2) (buf : List Byte) (i : Nat) :
    (unmBytes key ofs buf)[i]? = buf[i]?.map (· ^^^ key.lane (ofs.toNat + i)) := by
  induction buf generalizing ofs i with
  | nil => rfl
  | cons b bs ih =>
    cases i with
    | zero => rfl
    | succ i => rw [unmBytes, List.getElem?_cons_succ, List.getElem?_cons_succ, ih, key.lane_succ_ofs]

/-- The returned offset is the offset advanced by the length, in 2-bit arithmetic. -/
theorem unm_ofs (key : MaskKey) (ofs : BitVec 2) (buf : List Byte) :
    (unm key ofs buf).2 = ofs + BitVec.ofNat 2 buf.length := by
  rw [unm, BitVec.ofNat_add, BitVec.ofNat_toNat, BitVec.setWidth_eq]

/-- A concatenation's second part goes on at the offset the first part leads to. -/
theorem unmBytes_append (key : MaskKey) (ofs : BitVec 2) (a b : List Byte) :
    unmBytes key ofs (a ++ b) = unmBytes key ofs a ++ unmBytes key (ofs + BitVec.ofNat 2 a.length) b := by
  induction a generalizing ofs with
  | nil => rw [List.nil_append, List.length_nil, BitVec.add_zero]; rfl
  | cons x xs ih =>
    have hofs : ofs + 1 + BitVec.ofNat 2 xs.length = ofs + BitVec.ofNat 2 (xs.length + 1) := by
      rw [BitVec.ofNat_add, BitVec.add_comm (BitVec.ofNat 2 xs.length), BitVec.add_assoc]
      rfl
    rw [List.cons_append, unmBytes, ih, hofs]
    rfl

theorem unm_nil (key : MaskKey) (ofs : BitVec 2) : unm key ofs [] = ([], ofs) := by
  refine Prod.ext rfl ?_
  rw [unm_ofs]
  exact BitVec.add_zero _

/-- The two-chunk law (R75). -/
theorem unm_append (key : MaskKey) (ofs : BitVec 2) (a b : List Byte) :
    unm key ofs (a ++ b) =
      ((unm key ofs a).1 ++ (unm key (unm key ofs a).2 b).1, (unm key (unm key ofs a).2 b).2) := by
  refine Prod.ext ?_ ?_
  · show unmBytes key ofs (a ++ b) = unmBytes key ofs a ++ unmBytes key (unm key ofs a).2 b
    rw [unm_ofs, unmBytes_append]
  · rw [unm_ofs, unm_ofs, unm_ofs, List.length_append, BitVec.ofNat_add, BitVec.add_assoc]

/-- The two-chunk law, chunk by chunk (R75). -/
theorem unmChunks_eq_unm_flatten (key : MaskKey) (ofs : BitVec 2) (chunks : List (List Byte)) :
    unmChunks key ofs chunks = unm key ofs chunks.flatten := by
  induction chunks generalizing ofs with
  | nil => exact (unm_nil key ofs).symm
  | cons c cs ih => rw [unmChunks, ih, List.flatten_cons, unm_append]

/-- Masking and unmasking at the same offset: the bytes come back, and the offset advances by the length (R76). -/
theorem unm_unm (key : MaskKey) (ofs : BitVec 2) (buf : List Byte) :
    unm key ofs (unm key ofs buf).1 = (buf, BitVec.ofNat 2 (ofs.toNat + buf.length)) := by
  simp only [unm, unmBytes_unmBytes, Machine.unmBytes_length]

/-- Settles O1: byte `i` by the recursion of UNM, the key byte by its index mod 4. -/
theorem unmaskingXorsEachByteWithItsKeyByte : Obligations.UnmaskingXorsEachByteWithItsKeyByte := by
  intro key ofs buf
  refine ⟨Machine.unmBytes_length key ofs buf, BitVec.toNat_ofNat _ 2, fun i b hb => ?_⟩
  refine ⟨key.lane (ofs.toNat + i), key.bytes_getElem?_mod _, ?_⟩
  exact (unmBytes_getElem? key ofs buf i).trans (by rw [hb, Option.map_some])

/-- Settles O2: the two-chunk law, and its induction over the chunks. -/
theorem unmaskingComposesOverChunks : Obligations.UnmaskingComposesOverChunks :=
  ⟨unm_append, unmChunks_eq_unm_flatten⟩

/-- Settles O3: the key cancels, and chunks that make up the masked bytes are unmasked as their concatenation. -/
theorem unmaskingTwiceRestoresTheBuffer : Obligations.UnmaskingTwiceRestoresTheBuffer := by
  intro key ofs buf
  refine ⟨unm_unm key ofs buf, fun chunks hc => ?_⟩
  rw [unmChunks_eq_unm_flatten, hc, unm_unm]

end Sys2Proof

namespace Sys2Proof.Machine

/-! ### UNM at the host port and in FDEC (R77, R78, R89) -/

/-- With no command in progress UNMASK is accepted and delivers its result in that step (R78). -/
theorem execUnmask_of_idle {s : State} (h : s.seq = .idle) (key : MaskKey) (ofs : BitVec 2) (data : List Byte) :
    execUnmask key ofs data s =
      .next ((s.setRes (.unmasked (unm key ofs data).1 (unm key ofs data).2)).deliverToHost
        (.unmasked (unm key ofs data).1 (unm key ofs data).2)) :=
  if_neg (not_not.mpr h)

/-- Settles O4: the accepted UNMASK writes `RES` and delivers it. -/
theorem unmaskDeliversTheUnmaskedData : Obligations.UnmaskDeliversTheUnmaskedData := by
  intro key ofs data s h
  exact execUnmask_of_idle h key ofs data

/-- With the payload read, the block's own step is the unmasking of R77 and R89. -/
theorem advance_payloadRead {s : State} (hs : s.seq = .fdPay) (ha : s.answered = true) :
    advance s = unmaskPayload s := by
  rw [advance_sequencer (by simp [hs]) (by simp [hs])]
  simp only [sequencerStep, hs, ha]

/-- Settles O25: the block's own step, by the frame's mask bit. -/
theorem payloadIsUnmaskedFromOffsetZero : Obligations.PayloadIsUnmaskedFromOffsetZero := by
  intro s ms hl ht hs ha
  rw [step_quiet hl ht, advance_payloadRead (s := s.setHost ms) hs ha, unmaskPayload, State.setHost_masked]
  constructor <;> intro hm
  · rw [if_pos hm]
    rfl
  · rw [if_neg (by rw [hm]; decide)]
    rfl

end Sys2Proof.Machine

namespace Sys2Proof

/-! ### The header extractors as arithmetic (R79, R80) -/

/-- The top bit of a byte, as a quotient. -/
theorem toNat_getLsbD_seven (b : Byte) : (b.getLsbD 7).toNat = b.toNat / 2 ^ 7 := by
  have hb : b.toNat < 2 ^ 8 := b.isLt
  have hbit : (b.toNat.testBit 7).toNat = b.toNat / 2 ^ 7 % 2 := Nat.toNat_testBit ..
  exact hbit.trans (by omega)

/-- A field of a byte, as a quotient and a remainder. -/
theorem toNat_extractLsb' (b : Byte) (start len : Nat) :
    (b.extractLsb' start len).toNat = b.toNat / 2 ^ start % 2 ^ len := by
  rw [BitVec.extractLsb'_toNat, Nat.shiftRight_eq_div_pow]

/-- Settles O10: HX0 and HX1 take the top bit and fields of the byte. -/
theorem headerExtractorsReadTheirBits : Obligations.HeaderExtractorsReadTheirBits := by
  intro b
  have hlow (len : Nat) : (b.extractLsb' 0 len).toNat = b.toNat % 2 ^ len := by
    rw [toNat_extractLsb', pow_zero, Nat.div_one]
  exact ⟨toNat_getLsbD_seven b, toNat_extractLsb' b 4 3, hlow 4, toNat_getLsbD_seven b, hlow 7⟩

/-- The three reserved bits as a number: RSV1 is bit 2, RSV2 bit 1, RSV3 bit 0 (R118). -/
theorem rsvBits_toNat (r1 r2 r3 : Bool) : (rsvBits r1 r2 r3).toNat = 4 * r1.toNat + 2 * r2.toNat + r3.toNat := by
  revert r1 r2 r3; decide

end Sys2Proof

namespace Sys2Proof.Machine

/-! ### FDEC's own step in each state (R82 to R91) -/

section FdecSteps

variable {s : State}

theorem advance_readH0 (hs : s.seq = .fdH0) (ha : s.answered = false) : advance s = readH0 s := by
  rw [advance_sequencer (by simp [hs]) (by simp [ha])]
  simp only [sequencerStep, hs, ha]

/-- A reserved bit in byte 0 is decoded and raised, byte 1 unread (R83). -/
theorem advance_rsvSet (hs : s.seq = .fdH0) (ha : s.answered = true) (hr : s.rsv ≠ 0) :
    advance s = .next (raise (.protocolRsv s.rsv) s) := by
  have hi : s.headerInstr = some (instrOfRsv (hx0 s.h0)) := by
    simp only [State.headerInstr, State.headerBytes, hs, ha, if_true, decode_of_rsv_ne_zero hr]
  rw [advance_of_headerInstr hi, exec_instrOfRsv hr]
  rfl

theorem advance_rsvClear (hs : s.seq = .fdH0) (ha : s.answered = true) (hr : s.rsv = 0) :
    advance s = .next (s.goto .fdH1) := by
  rw [advance_sequencer (by simp [hs]) fun _ _ => hr]
  simp only [sequencerStep, hs, ha, acceptH0]

theorem advance_readH1 (hs : s.seq = .fdH1) (ha : s.answered = false) : advance s = readH1 s := by
  rw [advance_sequencer (by simp [hs]) (by simp [hs])]
  simp only [sequencerStep, hs, ha]

/-- A length up to 125 is written and checked at once (R85). -/
theorem advance_direct (hs : s.seq = .fdH1) (ha : s.answered = true) (hl : s.len7.toNat ≤ 125) :
    advance s = checkLength (s.setPlen s.len7.toNat) := by
  have hform : lenSource s.len7 = .direct := if_pos hl
  rw [advance_sequencer (by simp [hs]) (by simp [hs])]
  simp only [sequencerStep, hs, ha, resolveLength, hform]

theorem advance_ext16 (hs : s.seq = .fdH1) (ha : s.answered = true) (hl : s.len7.toNat = 126) :
    advance s = .next (s.goto .fdX16) := by
  have hform : lenSource s.len7 = .ext16 := by rw [lenSource, hl]; rfl
  rw [advance_sequencer (by simp [hs]) (by simp [hs])]
  simp only [sequencerStep, hs, ha, resolveLength, hform]

theorem advance_ext64 (hs : s.seq = .fdH1) (ha : s.answered = true) (hl : s.len7.toNat = 127) :
    advance s = .next (s.goto .fdX64) := by
  have hform : lenSource s.len7 = .ext64 := by rw [lenSource, hl]; rfl
  rw [advance_sequencer (by simp [hs]) (by simp [hs])]
  simp only [sequencerStep, hs, ha, resolveLength, hform]

theorem advance_readX16 (hs : s.seq = .fdX16) (ha : s.answered = false) : advance s = readX16 s := by
  rw [advance_sequencer (by simp [hs]) (by simp [hs])]
  simp only [sequencerStep, hs, ha]

theorem advance_readX64 (hs : s.seq = .fdX64) (ha : s.answered = false) : advance s = readX64 s := by
  rw [advance_sequencer (by simp [hs]) (by simp [hs])]
  simp only [sequencerStep, hs, ha]

theorem advance_extended (hs : s.seq = .fdX16 ∨ s.seq = .fdX64) (ha : s.answered = true) :
    advance s = checkLength s := by
  rcases hs with hs | hs
  all_goals
    rw [advance_sequencer (by simp [hs]) (by simp [hs])]
    simp only [sequencerStep, hs, ha]

theorem advance_readKey (hs : s.seq = .fdKey) : advance s = readKey s := by
  rw [advance_sequencer (by simp [hs]) (by simp [hs])]
  simp only [sequencerStep, hs]

theorem advance_readPayload (hs : s.seq = .fdPay) (ha : s.answered = false) : advance s = readPayload s := by
  rw [advance_sequencer (by simp [hs]) (by simp [hs])]
  simp only [sequencerStep, hs, ha]

theorem advance_endFrame (hs : s.seq = .fdEnd) : advance s = endFrame s := by
  rw [advance_sequencer (by simp [hs]) (by simp [hs])]
  simp only [sequencerStep, hs]

theorem advance_returnFrame (hs : s.seq = .fdEnd) (hc : s.cmd = .decodeFrame) :
    advance s = .next (returnResult (.frame s.fin s.opc s.masked s.pbuf) s) := by
  rw [advance_endFrame hs, endFrame, hc]

theorem advance_toDispatch (hs : s.seq = .fdEnd) (hc : s.cmd = .readMessage) :
    advance s = .next (s.goto .mrDispatch) := by
  rw [advance_endFrame hs, endFrame, hc]

end FdecSteps

/-! ### A read transaction, by the stream's answer (R35) -/

section ReadThen

variable {n : Nat} {s : State} {k : List Byte → State → State}

theorem readThen_of_data {bs : List Byte} {rest : List StreamItem} (h : streamRead n s.stream = .data bs rest) :
    readThen n s k = .next (k bs (s.setStream rest)) := by
  rw [readThen, h]

theorem readThen_of_error {e : TransportError} {rest : List StreamItem} (h : streamRead n s.stream = .error e rest) :
    readThen n s k = .next (raise (.transport e) (s.setStream rest)) := by
  rw [readThen, h]

theorem readThen_of_noAnswer (h : streamRead n s.stream = .noAnswer) : readThen n s k = .next s := by
  rw [readThen, h]

end ReadThen

/-! ### The length check, by its verdict (R86, R87) -/

section CheckLength

variable {s : State}

theorem checkLength_of_msbSet (h : 2 ^ 63 ≤ s.plen.toNat) : checkLength s = .refused .lenMsbSet := by
  rw [checkLength, lenVerdict, if_pos h]

theorem checkLength_of_overCapacity (h : s.plen.toNat < 2 ^ 63) (hc : exceeds s.params.accCap s.plen.toNat = true) :
    checkLength s = .fault .capacity := by
  rw [checkLength, lenVerdict, if_neg (by omega), if_pos hc]

theorem checkLength_of_accepted (h : s.plen.toNat < 2 ^ 63) (hc : exceeds s.params.accCap s.plen.toNat = false) :
    checkLength s = .next (s.goto .fdKey) := by
  rw [checkLength, lenVerdict, if_neg (by omega), if_neg (by simp [hc])]

/-- A field of seven bits is a length of 64 bits. -/
theorem setPlen_len7_toNat (s : State) : (s.setPlen s.len7.toNat).plen.toNat = s.len7.toNat := by
  have := s.len7.isLt
  rw [State.setPlen_plen, BitVec.toNat_ofNat]
  omega

end CheckLength

/-! ### The steps of FDEC as the rules state them -/

/-- At `IDLE` and before the close signal the host port accepts (R128, R129). -/
theorem acceptThen_of_ready {s : State} (hs : s.seq = .idle) (hc : s.closed = false) (k : State → State) :
    acceptThen s k = .next (k s) := by
  rw [acceptThen, if_neg (not_not.mpr hs), if_neg (by simp [hc])]

/-- Settles O7: the accepted DECODE_FRAME writes `CMD` and `SEQ`. -/
theorem decodeFrameIsAcceptedAtIdle : Obligations.DecodeFrameIsAcceptedAtIdle := by
  intro s hs hc
  exact acceptThen_of_ready hs hc fun s => (s.setCmd .decodeFrame).goto .fdH0

/-- Settles O18, state by state: the size of the read, and the block's own step on its data. -/
theorem answeredReadsLatchTheirRegister : Obligations.AnsweredReadsLatchTheirRegister := by
  intro s ms bytes rest n hl ht hp hr
  have hport := pendingRead_eq_some_iff.mp hp
  have latches {k : List Byte → State → State} (h : advance (s.setHost ms) = readThen n (s.setHost ms) k) :
      step s = .next (k bytes ((s.setHost ms).setStream rest)) := by
    rw [step_quiet hl ht, h, readThen_of_data (s := s.setHost ms) hr]
  refine ⟨fun hs => ?_, fun hs => ?_, fun hs => ?_, fun hs => ?_, fun hs => ?_, fun hs => ?_⟩
  · obtain ⟨ha, rfl⟩ : s.answered = false ∧ n = 1 := by simpa [hs] using hport
    exact ⟨rfl, latches (advance_readH0 (s := s.setHost ms) hs ha)⟩
  · obtain ⟨ha, rfl⟩ : s.answered = false ∧ n = 1 := by simpa [hs] using hport
    exact ⟨rfl, latches (advance_readH1 (s := s.setHost ms) hs ha)⟩
  · obtain ⟨ha, rfl⟩ : s.answered = false ∧ n = 2 := by simpa [hs] using hport
    exact ⟨rfl, latches (advance_readX16 (s := s.setHost ms) hs ha)⟩
  · obtain ⟨ha, rfl⟩ : s.answered = false ∧ n = 8 := by simpa [hs] using hport
    exact ⟨rfl, latches (advance_readX64 (s := s.setHost ms) hs ha)⟩
  · obtain ⟨hm, rfl⟩ : s.masked = true ∧ n = 4 := by simpa [hs] using hport
    exact ⟨rfl, hm, latches ((advance_readKey (s := s.setHost ms) hs).trans (if_pos hm))⟩
  · obtain ⟨ha, hn, rfl⟩ : s.answered = false ∧ 0 < s.plen.toNat ∧ n = s.plen.toNat := by simpa [hs] using hport
    exact ⟨rfl, latches ((advance_readPayload (s := s.setHost ms) hs ha).trans (if_pos hn))⟩

/-- Settles O19: the block's own step is the read on the port, and an error ends the command. -/
theorem readErrorEndsTheCommand : Obligations.ReadErrorEndsTheCommand := by
  intro s ms e rest n hl ht hp hr
  obtain ⟨k, hk⟩ := advance_of_pendingRead (s := s.setHost ms) hp
  rw [step_quiet hl ht, hk, readThen_of_error (s := s.setHost ms) hr]
  rfl

/-- Settles O21: the check after byte 0, by the reserved bits in `H0`. -/
theorem reservedBitsEndTheCommandAtByteZero : Obligations.ReservedBitsEndTheCommandAtByteZero := by
  intro s ms hl ht hs ha
  rw [step_quiet hl ht]
  exact ⟨advance_rsvSet (s := s.setHost ms) hs ha, advance_rsvClear (s := s.setHost ms) hs ha⟩

/-- Settles O22: each row raises its own bits put together, and their number is `rsvBits_toNat`. -/
theorem reservedBitRowsRaiseTheirBits : Obligations.ReservedBitRowsRaiseTheirBits := by
  intro fin rsv2 rsv3 opc s
  refine ⟨⟨rsvBits true rsv2 rsv3, rsvBits_toNat .., rfl⟩, ⟨rsvBits false true rsv3, ?_, rfl⟩, rfl⟩
  rw [rsvBits_toNat]
  simp

/-- Settles O23: at `FD_H1` by the form of the length, at the extended forms by the check's verdict. -/
theorem lengthIsResolvedByItsForm : Obligations.LengthIsResolvedByItsForm := by
  intro s ms hl ht ha
  rw [step_quiet hl ht]
  constructor
  · intro hs
    have hn : ((s.setHost ms).setPlen s.len7.toNat).plen.toNat = s.len7.toNat := setPlen_len7_toNat (s.setHost ms)
    refine ⟨fun h hc => ?_, fun h hc => ?_, advance_ext16 (s := s.setHost ms) hs ha,
      advance_ext64 (s := s.setHost ms) hs ha⟩
    all_goals rw [← hn] at hc
    · rw [advance_direct (s := s.setHost ms) hs ha h]
      refine (checkLength_of_accepted (s := (s.setHost ms).setPlen s.len7.toNat) (by omega) hc).trans ?_
      rw [State.setPlen, BitVec.ofNat_toNat]
      rfl
    · rw [advance_direct (s := s.setHost ms) hs ha h]
      exact checkLength_of_overCapacity (s := (s.setHost ms).setPlen s.len7.toNat) (by omega) hc
  · intro hs
    rw [advance_extended (s := s.setHost ms) hs ha]
    exact ⟨checkLength_of_msbSet (s := s.setHost ms), checkLength_of_overCapacity (s := s.setHost ms),
      checkLength_of_accepted (s := s.setHost ms)⟩

/-- Settles O26: the end of a frame, by the command in progress. -/
theorem completeFrameIsReturnedOrDispatched : Obligations.CompleteFrameIsReturnedOrDispatched := by
  intro s ms hl ht hs
  rw [step_quiet hl ht]
  exact ⟨advance_returnFrame (s := s.setHost ms) hs, advance_toDispatch (s := s.setHost ms) hs⟩

/-! ### A host that issues nothing more -/

/-- The Connection exists and the host has no move left. -/
def State.Unattended (s : State) : Prop := s.live = true ∧ s.host = []

theorem setHost_nil {s : State} (h : s.host = []) : s.setHost [] = s := by
  rw [← h]; rfl

/-- Left alone, the block makes its own step. -/
theorem State.Unattended.step_eq {s : State} (h : s.Unattended) : step s = advance s := by
  obtain ⟨hl, hh⟩ := h
  rw [step_quiet (ms := []) hl (by rw [State.turn, hh]), setHost_nil hh]

/-- With no host move left, a step is the block's own, or holds a destroyed Connection. -/
theorem step_of_noMoves {s : State} (h : s.host = []) : step s = advance s ∨ step s = .next s := by
  cases hl : s.live with
  | true => exact .inl (State.Unattended.step_eq ⟨hl, h⟩)
  | false => exact .inr (by simp [step, takeStep, hl, State.turn, h, setHost_nil h])

/-- The block's own step makes no move of the host. -/
theorem BlockStep.host_eq {s t : State} (h : BlockStep s t) : t.host = s.host := by
  cases h <;> simp

/-- Without a capacity nothing exceeds it, and the block's own step faults for no other reason (R126). -/
theorem advance_ne_fault {s : State} (h : s.params.accCap = none) (r : Fault) : advance s ≠ .fault r := by
  intro hf
  cases advance_fault hf with
  | directCap _ _ _ hc | extendedCap _ _ _ hc | appendCap _ _ _ _ hc => simp [h, exceeds] at hc

/-- A run that faults comes to a state whose step does. -/
theorem Faults.exists_step {s : State} {r : Fault} (h : Faults s r) : ∃ t, Reaches s t ∧ step t = .fault r := by
  obtain ⟨k, hk⟩ := h
  induction k generalizing s with
  | zero => cases hk
  | succ k ih =>
    rw [run_succ] at hk
    split at hk
    · obtain ⟨t, hr, ht⟩ := ih hk
      exact ⟨t, (Reaches.step (by assumption)).trans hr, ht⟩
    · rename_i hs
      exact ⟨s, .refl s, hs.trans hk⟩
    · cases hk

/-- The host issues nothing more and there is no capacity. -/
def State.QuietUnbounded (s : State) : Prop := s.host = [] ∧ s.params.accCap = none

theorem State.QuietUnbounded.step {s t : State} (h : s.QuietUnbounded) (hst : Machine.step s = .next t) :
    t.QuietUnbounded := by
  obtain ⟨hh, hcap⟩ := h
  refine ⟨?_, (parametersAreFixed s t hst).symm ▸ hcap⟩
  rcases step_of_noMoves hh with e | e <;> rw [e] at hst
  · exact (advance_next hst).host_eq.trans hh
  · cases hst
    exact hh

theorem State.QuietUnbounded.step_ne_fault {s : State} (h : s.QuietUnbounded) (r : Fault) :
    Machine.step s ≠ .fault r := by
  obtain ⟨hh, hcap⟩ := h
  rcases step_of_noMoves hh with e | e <;> rw [e]
  · exact advance_ne_fault hcap r
  · simp

/-- Settles O53, by induction over the run: every step keeps the host's empty list and the absent capacity, and from such
a state none faults. -/
theorem quietUnboundedRunIsSafe : Obligations.QuietUnboundedRunIsSafe := by
  intro s hh hcap r hf
  obtain ⟨t, hr, ht⟩ := hf.exists_step
  have hquiet : t.QuietUnbounded := reaches_induction (fun _ _ => State.QuietUnbounded.step) hr ⟨hh, hcap⟩
  exact hquiet.step_ne_fault r ht

/-! ### How a run goes on from a state it reaches -/

theorem Faults.of_step {s : State} {r : Fault} (h : step s = .fault r) : Faults s r :=
  ⟨1, by rw [run_succ, h]⟩

theorem Refuses.of_step {s : State} {r : Refusal} (h : step s = .refused r) : Refuses s r :=
  ⟨1, by rw [run_succ, h]⟩

theorem Faults.of_reaches {s t : State} {r : Fault} (h : Reaches s t) (ht : Faults t r) : Faults s r := by
  obtain ⟨j, hj⟩ := h
  obtain ⟨k, hk⟩ := ht
  exact ⟨j + k, (run_add j k hj).trans hk⟩

theorem Refuses.of_reaches {s t : State} {r : Refusal} (h : Reaches s t) (ht : Refuses t r) : Refuses s r := by
  obtain ⟨j, hj⟩ := h
  obtain ⟨k, hk⟩ := ht
  exact ⟨j + k, (run_add j k hj).trans hk⟩

/-- A call ends as it does from a state the run reaches with nothing delivered yet. -/
theorem Computes.of_reaches {s t : State} {e : CallEnd} (h : Reaches s t) (hd : t.delivered = s.delivered)
    (ht : Computes t e) : Computes s e := by
  cases e with
  | result r closes key rest =>
    obtain ⟨u, hu, hs, hc, hdel, hrest⟩ := ht
    exact ⟨u, h.trans hu, hs, hc, hd ▸ hdel, hrest⟩
  | fault r => exact Faults.of_reaches h ht
  | refused r => exact Refuses.of_reaches h ht
  | waiting =>
    obtain ⟨u, hu, hw, hstep, hdel⟩ := ht
    exact ⟨u, h.trans hu, hw, hstep, hdel.trans hd⟩

/-- A call at `DONE` ends with the result in `RES` (R131). -/
theorem computes_of_done {s : State} (hu : s.Unattended) (hs : s.seq = .done) :
    Computes s (.result s.res s.closed s.key s.stream) := by
  obtain ⟨hl, hh⟩ := hu
  have hstep := waitingResultIsDelivered s [] hl (by rw [State.turn, hh]) hs
  exact ⟨_, .step hstep, rfl, rfl, rfl, rfl, rfl, rfl⟩

/-! ### FDEC computes its listing, whichever command it reads for (R94)

`FrameComputes s e` says that FDEC's run from `s` ends as the listing's end `e` says. It is proved from the last state of
FDEC back to the first: a step, or a read and what follows each of its answers, at a time. -/

/-- What FDEC leaves alone: the command, the call registers, the close signal, the host and the parameters. -/
structure KeepsCall (s t : State) : Prop where
  cmd : t.cmd = s.cmd
  closed : t.closed = s.closed
  acc : t.acc = s.acc
  msgOp : t.msgOp = s.msgOp
  fcnt : t.fcnt = s.fcnt
  live : t.live = s.live
  host : t.host = s.host
  delivered : t.delivered = s.delivered
  params : t.params = s.params

theorem KeepsCall.refl (s : State) : KeepsCall s s := ⟨rfl, rfl, rfl, rfl, rfl, rfl, rfl, rfl, rfl⟩

theorem KeepsCall.trans {s t u : State} (h : KeepsCall s t) (h' : KeepsCall t u) : KeepsCall s u :=
  ⟨h'.cmd.trans h.cmd, h'.closed.trans h.closed, h'.acc.trans h.acc, h'.msgOp.trans h.msgOp, h'.fcnt.trans h.fcnt,
    h'.live.trans h.live, h'.host.trans h.host, h'.delivered.trans h.delivered, h'.params.trans h.params⟩

theorem KeepsCall.unattended {s t : State} (h : KeepsCall s t) (hu : s.Unattended) : t.Unattended :=
  ⟨h.live.trans hu.1, h.host.trans hu.2⟩

/-- The block's own step while FDEC reads. -/
theorem BlockStep.keepsCall {s t : State} (h : BlockStep s t) (hq : s.seq.reading = true) : KeepsCall s t := by
  cases h with
  | lastFragment hs | fragment hs | pingPong hs | closeFrame hs | delivered hs => simp [hs, Seq.reading] at hq
  | _ => exact ⟨rfl, rfl, rfl, rfl, rfl, rfl, rfl, rfl, rfl⟩

/-- The frame in the frame registers (R91). -/
def State.decodedFrame (s : State) : DecodedFrame :=
  { fin := s.fin, opcode := s.opc, masked := s.masked, payload := s.pbuf }

/-- FDEC's run from `s` ends as `e` says: at `FD_END` with the frame, at `DONE` with the error, in a fault, in a refusal, or
waiting for good (R50). The call is kept as it was. -/
def FrameComputes (s : State) : FrameEnd → Prop
  | .frame f key rest =>
    ∃ t, Reaches s t ∧ KeepsCall s t ∧ t.seq = .fdEnd ∧ t.rsv = 0 ∧ t.decodedFrame = f ∧ t.key = key ∧ t.stream = rest
  | .raised k key rest =>
    ∃ t, Reaches s t ∧ KeepsCall s t ∧ t.seq = .done ∧ t.res = .err k ∧ t.key = key ∧ t.stream = rest
  | .fault r => Faults s r
  | .refused r => Refuses s r
  | .waiting => ∃ t, Reaches s t ∧ KeepsCall s t ∧ Waiting t ∧ step t = .next t

/-- One step of FDEC back. -/
theorem FrameComputes.of_advance {s t : State} {e : FrameEnd} (hu : s.Unattended) (hq : s.seq.reading = true)
    (hadv : advance s = .next t) (h : FrameComputes t e) : FrameComputes s e := by
  have hr : Reaches s t := .step (hu.step_eq.trans hadv)
  have hk : KeepsCall s t := (advance_next hadv).keepsCall hq
  cases e with
  | frame | raised | waiting =>
    obtain ⟨u, hru, hku, hrest⟩ := h
    exact ⟨u, hr.trans hru, hk.trans hku, hrest⟩
  | fault r => exact Faults.of_reaches hr h
  | refused r => exact Refuses.of_reaches hr h

theorem frameComputes_end {s : State} (hs : s.seq = .fdEnd) (hr : s.rsv = 0) :
    FrameComputes s (.frame s.decodedFrame s.key s.stream) :=
  ⟨s, .refl s, .refl s, hs, hr, rfl, rfl, rfl⟩

theorem frameComputes_raise (k : ErrKind) (s : State) : FrameComputes (raise k s) (.raised k s.key s.stream) :=
  ⟨raise k s, .refl _, .refl _, rfl, rfl, rfl, rfl⟩

/-- A read of FDEC is the listing's read: with data both go on, an error ends both, and both wait for an answer. -/
theorem frameComputes_read {s : State} {n : Nat} {k : List Byte → State → State}
    {c : List Byte → List StreamItem → FrameEnd} (hu : s.Unattended) (hp : s.pendingRead = some n)
    (hadv : advance s = readThen n s k) (hk : ∀ bs rest, FrameComputes (k bs (s.setStream rest)) (c bs rest)) :
    FrameComputes s (listRead n s.key s.stream c) := by
  have hq := pendingRead_reading hp
  unfold listRead
  cases hr : streamRead n s.stream with
  | data bs rest => exact .of_advance hu hq (hadv.trans (readThen_of_data hr)) (hk bs rest)
  | error e rest => exact .of_advance hu hq (hadv.trans (readThen_of_error hr)) (frameComputes_raise _ _)
  | noAnswer =>
    exact ⟨s, .refl s, .refl s, ⟨n, hp, hr⟩, hu.step_eq.trans (hadv.trans (readThen_of_noAnswer hr))⟩

section Phases

variable {s : State}

/-- With the payload read: it is unmasked where the frame is masked (R89). -/
theorem frameComputes_payloadRead (hu : s.Unattended) (hr : s.rsv = 0) (hs : s.seq = .fdPay) (ha : s.answered = true) :
    FrameComputes s (.frame { s.decodedFrame with
      payload := if s.masked = true then (unm s.key 0 s.pbuf).1 else s.pbuf } s.key s.stream) := by
  have hq := congrArg Seq.reading hs
  have hadv := advance_payloadRead hs ha
  unfold unmaskPayload at hadv
  split_ifs at hadv ⊢ with hm
  · exact .of_advance hu hq hadv (frameComputes_end rfl hr)
  · exact .of_advance hu hq hadv (frameComputes_end rfl hr)

/-- From the payload read on (R89). -/
theorem frameComputes_payload (hu : s.Unattended) (hr : s.rsv = 0) (hs : s.seq = .fdPay) (ha : s.answered = false) :
    FrameComputes s (listPayload s.h0 s.h1 s.plen.toNat s.key s.stream) := by
  have hadv := advance_readPayload hs ha
  rw [readPayload] at hadv
  rw [listPayload]
  by_cases hn : 0 < s.plen.toNat
  · rw [if_pos hn] at hadv ⊢
    refine frameComputes_read hu (pendingRead_eq_some_iff.mpr (by simp [hs, ha, hn])) hadv fun bs rest => ?_
    exact frameComputes_payloadRead (s := ((s.setStream rest).setPbuf bs).setAnswered) hu hr hs rfl
  · rw [if_neg hn] at hadv ⊢
    exact .of_advance hu (congrArg Seq.reading hs) hadv (frameComputes_end rfl hr)

/-- From the key read on (R88). -/
theorem frameComputes_key (hu : s.Unattended) (hr : s.rsv = 0) (hs : s.seq = .fdKey) :
    FrameComputes s (if s.masked = true then
        listRead 4 s.key s.stream fun bs rest => listPayload s.h0 s.h1 s.plen.toNat (MaskKey.ofBytes bs) rest
      else listPayload s.h0 s.h1 s.plen.toNat s.key s.stream) := by
  have hadv := advance_readKey hs
  unfold readKey at hadv
  split_ifs at hadv ⊢ with hm
  · exact frameComputes_read hu (pendingRead_eq_some_iff.mpr (by simp [hs, hm])) hadv fun bs rest =>
      frameComputes_payload hu hr rfl rfl
  · exact .of_advance hu (congrArg Seq.reading hs) hadv (frameComputes_payload hu hr rfl rfl)

/-- From the length checks on (R86, R87): `t` is the state whose length FDEC checks in its step from `s`. -/
theorem frameComputes_tail {t : State} (hu : s.Unattended) (hq : s.seq.reading = true)
    (hadv : advance s = checkLength t) (hut : t.Unattended) (hr : t.rsv = 0) :
    FrameComputes s (listTail t.params.accCap t.h0 t.h1 t.plen.toNat t.key t.stream) := by
  have hstep := hu.step_eq.trans hadv
  unfold listTail
  rcases checkLength_outcome t with ⟨hm, e⟩ | ⟨hm, hc, e⟩ | ⟨hm, hc, e⟩
  · rw [if_pos hm]
    exact Refuses.of_step (hstep.trans e)
  · rw [if_neg (by omega), if_pos hc]
    exact Faults.of_step (hstep.trans e)
  · rw [if_neg (by omega), hc, if_neg Bool.false_ne_true]
    exact .of_advance hu hq (hadv.trans e) (frameComputes_key hut hr rfl)

/-- The listing from the resolution of the length on (R85). -/
def listLength (cap : Option Nat) (b0 b1 : Byte) (key : MaskKey) (items : List StreamItem) : FrameEnd :=
  if (hx1 b1).len7.toNat ≤ 125 then listTail cap b0 b1 (hx1 b1).len7.toNat key items
  else if (hx1 b1).len7.toNat = 126 then listRead 2 key items fun x rest => listTail cap b0 b1 (be16 x) key rest
  else listRead 8 key items fun x rest => listTail cap b0 b1 (be64 x) key rest

/-- The listing of R94: byte 0 and its check, byte 1, and the rest by the length. -/
theorem decodeFrameListing_eq (cap : Option Nat) (key : MaskKey) (items : List StreamItem) :
    decodeFrameListing cap key items = listRead 1 key items fun s0 r0 =>
      if (hx0 (s0.getD 0 0)).rsv ≠ 0 then .raised (.protocolRsv (hx0 (s0.getD 0 0)).rsv) key r0
      else listRead 1 key r0 fun s1 r1 => listLength cap (s0.getD 0 0) (s1.getD 0 0) key r1 :=
  rfl

/-- With an extended length read: it is what the bytes assemble to (R61). -/
theorem frameComputes_extended {n : Nat} (hu : s.Unattended) (hr : s.rsv = 0) (hs : s.seq = .fdX16 ∨ s.seq = .fdX64)
    (ha : s.answered = true) (hn : s.plen = BitVec.ofNat 64 n) (hlt : n < 2 ^ 64) :
    FrameComputes s (listTail s.params.accCap s.h0 s.h1 n s.key s.stream) := by
  have hq : s.seq.reading = true := hs.elim (congrArg Seq.reading) (congrArg Seq.reading)
  have hplen : s.plen.toNat = n := by rw [hn, BitVec.toNat_ofNat, Nat.mod_eq_of_lt hlt]
  rw [← hplen]
  exact frameComputes_tail hu hq (advance_extended hs ha) hu hr

/-- From the resolution of the length on (R85). -/
theorem frameComputes_length (hu : s.Unattended) (hr : s.rsv = 0) (hs : s.seq = .fdH1) (ha : s.answered = true) :
    FrameComputes s (listLength s.params.accCap s.h0 s.h1 s.key s.stream) := by
  have hq := congrArg Seq.reading hs
  show FrameComputes s (if s.len7.toNat ≤ 125 then listTail s.params.accCap s.h0 s.h1 s.len7.toNat s.key s.stream
    else if s.len7.toNat = 126 then _ else _)
  split_ifs with h125 h126
  · have h := frameComputes_tail hu hq (advance_direct hs ha h125) hu hr
    rwa [setPlen_len7_toNat] at h
  · refine .of_advance hu hq (advance_ext16 hs ha h126) (frameComputes_read hu rfl (advance_readX16 rfl rfl) fun x _ => ?_)
    exact frameComputes_extended hu hr (.inl rfl) rfl rfl (by have := be16_lt x; omega)
  · have h127 : s.len7.toNat = 127 := by have := s.len7.isLt; omega
    refine .of_advance hu hq (advance_ext64 hs ha h127) (frameComputes_read hu rfl (advance_readX64 rfl rfl) fun x _ => ?_)
    exact frameComputes_extended hu hr (.inr rfl) rfl rfl (be64_lt x)

/-- From byte 1 on (R84). -/
theorem frameComputes_byte1 (hu : s.Unattended) (hr : s.rsv = 0) (hs : s.seq = .fdH1) (ha : s.answered = false) :
    FrameComputes s (listRead 1 s.key s.stream fun s1 r1 =>
      listLength s.params.accCap s.h0 (s1.getD 0 0) s.key r1) :=
  frameComputes_read hu (pendingRead_eq_some_iff.mpr (by simp [hs, ha])) (advance_readH1 hs ha) fun _ _ =>
    frameComputes_length hu hr hs rfl

/-- FDEC's steps from byte 0 on compute the listing of R94. -/
theorem frameComputes_listing (hu : s.Unattended) (hs : s.seq = .fdH0) (ha : s.answered = false) :
    FrameComputes s (decodeFrameListing s.params.accCap s.key s.stream) := by
  have hq := congrArg Seq.reading hs
  rw [decodeFrameListing_eq]
  refine frameComputes_read hu (pendingRead_eq_some_iff.mpr (by simp [hs, ha])) (advance_readH0 hs ha) fun bs rest => ?_
  split_ifs with hr
  · exact .of_advance hu hq (advance_rsvSet hs rfl hr) (frameComputes_raise _ _)
  · have hz := not_not.mp hr
    exact .of_advance hu hq (advance_rsvClear hs rfl hz) (frameComputes_byte1 hu hz rfl rfl)

end Phases

/-! ### DECODE_FRAME computes its listing (R94, R91) -/

/-- An error FDEC raises is the result of the call. -/
theorem FrameComputes.computes_raised {s : State} {k : ErrKind} {key : MaskKey} {rest : List StreamItem}
    (hu : s.Unattended) (h : FrameComputes s (.raised k key rest)) :
    Computes s (.result (.err k) s.closed key rest) := by
  obtain ⟨t, hr, hk, hs, hres, rfl, rfl⟩ := h
  rw [← hres, ← hk.closed]
  exact .of_reaches hr hk.delivered (computes_of_done (hk.unattended hu) hs)

/-- A wait of FDEC is a wait of the call. -/
theorem FrameComputes.computes_waiting {s : State} (h : FrameComputes s .waiting) : Computes s .waiting := by
  obtain ⟨t, hr, hk, hw, hstep⟩ := h
  exact ⟨t, hr, hw, hstep, hk.delivered⟩

/-- A frame FDEC yields for DECODE_FRAME is the result of the call (R91). -/
theorem FrameComputes.computes_frame {s : State} {f : DecodedFrame} {key : MaskKey} {rest : List StreamItem}
    (hu : s.Unattended) (hc : s.cmd = .decodeFrame) (h : FrameComputes s (.frame f key rest)) :
    Computes s (.result (.frame f.fin f.opcode f.masked f.payload) s.closed key rest) := by
  obtain ⟨t, hr, hk, hs, -, rfl, rfl, rfl⟩ := h
  have hut := hk.unattended hu
  have hret := hut.step_eq.trans (advance_returnFrame hs (hk.cmd.trans hc))
  rw [← hk.closed]
  exact .of_reaches (hr.trans (.step hret)) hk.delivered
    (computes_of_done (s := returnResult (.frame t.fin t.opc t.masked t.pbuf) t) hut rfl)

/-- DECODE_FRAME from the read of byte 0 on. -/
theorem computes_decodeCall {s : State} (hu : s.Unattended) (hc : s.cmd = .decodeFrame) (hcl : s.closed = false)
    (hs : s.seq = .fdH0) (ha : s.answered = false) : Computes s (decodeCallListing s.params s.key s.stream) := by
  have h := frameComputes_listing hu hs ha
  unfold decodeCallListing
  cases he : decodeFrameListing s.params.accCap s.key s.stream <;> rw [he] at h
  case frame f key rest => exact hcl ▸ h.computes_frame hu hc
  case raised k key rest => exact hcl ▸ h.computes_raised hu
  case fault r => exact h
  case refused r => exact h
  case waiting => exact h.computes_waiting

/-- A called command is the next step. -/
theorem step_calling {s : State} (hl : s.live = true) (c : Command) (items : List StreamItem) :
    step (s.calling c items) = exec c.toInstr ((s.calling c items).setHost []) :=
  step_command hl rfl

/-- Settles O54: DECODE_FRAME is accepted, FDEC's steps compute the listing of R94 (`frameComputes_listing`), and its end
becomes the end of the call. -/
theorem decodeFrameComputesItsListing : Obligations.DecodeFrameComputesItsListing := by
  intro s items hready
  obtain ⟨hl, hs, hc⟩ := hready
  have hstep := (step_calling hl .decodeFrame items).trans
    (decodeFrameIsAcceptedAtIdle ((s.calling .decodeFrame items).setHost []) hs hc)
  exact .of_reaches (.step hstep) rfl (computes_decodeCall ⟨hl, rfl⟩ rfl hc rfl rfl)

end Sys2Proof.Machine

namespace Sys2Proof.Machine

/-! ### MRD's shared operations, case by case (R98 to R101)

What `countFrame_cases`, `recordOp_cases` and `dataFrame_cases` say once, as an equation for each case. -/

section MrdOperations

variable {s : State} {opc : BitVec 4}

/-- Within the range of a call the count has no carry (R26). -/
theorem fcnt_succ_toNat (h : s.fcnt.toNat ≤ 100) : (s.fcnt + 1).toNat = s.fcnt.toNat + 1 := by
  rw [BitVec.toNat_add, show (1 : BitVec 7).toNat = 1 from rfl]
  omega

/-- A frame counted below 100 is followed by the next frame (R101). -/
theorem countFrame_of_lt (h : s.fcnt.toNat < 100) : countFrame s = (s.setFcnt (s.fcnt + 1)).goto .fdH0 := by
  have hn := fcnt_succ_toNat (s := s) (by omega)
  rcases countFrame_cases s with ⟨-, e⟩ | ⟨hgt, -⟩
  · exact e
  · omega

/-- The frame counted at 100 is the 101st, and ends the call (R101, R121). -/
theorem countFrame_of_eq (h : s.fcnt.toNat = 100) : countFrame s = raise .limit (s.setFcnt (s.fcnt + 1)) := by
  have hn := fcnt_succ_toNat (s := s) (by omega)
  rcases countFrame_cases s with ⟨hle, -⟩ | ⟨-, e⟩
  · omega
  · exact e

/-- The record policy of R100, under both values. -/
theorem records_iff (policy : RecordPolicy) (msgOp opc : BitVec 4) :
    records policy msgOp opc = true ↔ opc ≠ 0 ∧ (policy = .overwrite ∨ msgOp = 0) := by
  cases policy with
  | overwrite => simp [records_overwrite]
  | keepFirst => simp [records_keepFirst]

theorem recordOp_of_records (h : opc ≠ 0 ∧ (s.params.recordPolicy = .overwrite ∨ s.msgOp = 0)) :
    recordOp opc s = s.setMsgOp opc :=
  if_pos ((records_iff ..).mpr h)

theorem recordOp_of_not_records (h : ¬ (opc ≠ 0 ∧ (s.params.recordPolicy = .overwrite ∨ s.msgOp = 0))) :
    recordOp opc s = s :=
  if_neg (mt (records_iff ..).mp h)

/-- Recording as one state, by the policy's condition (R100). -/
theorem recordOp_eq (opc : BitVec 4) (s : State) :
    recordOp opc s = { s with
      msgOp := if opc ≠ 0 ∧ (s.params.recordPolicy = .overwrite ∨ s.msgOp = 0) then opc else s.msgOp
      written := { s.written with
        msgOp := if opc ≠ 0 ∧ (s.params.recordPolicy = .overwrite ∨ s.msgOp = 0) then true else s.written.msgOp } } := by
  by_cases h : opc ≠ 0 ∧ (s.params.recordPolicy = .overwrite ∨ s.msgOp = 0)
  · rw [recordOp_of_records h, if_pos h, if_pos h]
    rfl
  · rw [recordOp_of_not_records h, if_neg h, if_neg h]

/-- A record of 0 is replaced by any opcode, under either policy (R100). -/
theorem recordedOp_zero (policy : RecordPolicy) (opc : BitVec 4) : recordedOp policy 0 opc = opc := by
  by_cases h : opc = 0
  · rw [h]
    rfl
  · exact if_pos ((records_iff ..).mpr ⟨h, .inr rfl⟩)

/-- The fast path (R98). -/
theorem dataFrame_fastPath (ha : s.acc = []) :
    dataFrame opc true s = .next (returnResult (.message opc s.pbuf) s) :=
  if_pos ⟨ha, rfl⟩

/-- An append beyond the capacity (R99). -/
theorem dataFrame_overCapacity {fin : Bool} (hf : s.acc ≠ [] ∨ fin = false)
    (hc : exceeds s.params.accCap (s.acc.length + s.pbuf.length) = true) :
    dataFrame opc fin s = .fault .capacity := by
  have hslow : ¬ (s.acc = [] ∧ fin = true) := by
    rintro ⟨ha, rfl⟩
    simp [ha] at hf
  rw [dataFrame, if_neg hslow, if_pos hc]

/-- The last fragment, appended (R99, R103). -/
theorem dataFrame_lastFragment (ha : s.acc ≠ [])
    (hc : exceeds s.params.accCap (s.acc.length + s.pbuf.length) = false) :
    dataFrame opc true s = .next (returnResult (.message (recordOp opc (s.setAcc (s.acc ++ s.pbuf))).msgOp
      (s.acc ++ s.pbuf)) (recordOp opc (s.setAcc (s.acc ++ s.pbuf)))) := by
  rcases dataFrame_cases (opc := opc) (fin := true) (s := s) rfl with
    ⟨ha', -⟩ | ⟨-, hc', -⟩ | ⟨-, -, -, e⟩ | ⟨hf, -⟩
  · exact absurd ha' ha
  · simp [hc] at hc'
  · exact e
  · cases hf

/-- The last fragment of a message whose opcode it records (R100). -/
theorem dataFrame_lastFragment_recorded (ha : s.acc ≠ [])
    (hc : exceeds s.params.accCap (s.acc.length + s.pbuf.length) = false)
    (h : opc ≠ 0 ∧ (s.params.recordPolicy = .overwrite ∨ s.msgOp = 0)) :
    dataFrame opc true s =
      .next (returnResult (.message opc (s.acc ++ s.pbuf)) ((s.setAcc (s.acc ++ s.pbuf)).setMsgOp opc)) := by
  rw [dataFrame_lastFragment ha hc, recordOp_of_records (s := s.setAcc _) h]
  rfl

/-- The last fragment of a message whose opcode stays as recorded (R100). -/
theorem dataFrame_lastFragment_notRecorded (ha : s.acc ≠ [])
    (hc : exceeds s.params.accCap (s.acc.length + s.pbuf.length) = false)
    (h : ¬ (opc ≠ 0 ∧ (s.params.recordPolicy = .overwrite ∨ s.msgOp = 0))) :
    dataFrame opc true s =
      .next (returnResult (.message s.msgOp (s.acc ++ s.pbuf)) (s.setAcc (s.acc ++ s.pbuf))) := by
  rw [dataFrame_lastFragment ha hc, recordOp_of_not_records (s := s.setAcc _) h]
  rfl

/-- A fragment that is not the last, appended and counted (R99, R101). -/
theorem dataFrame_fragment (hc : exceeds s.params.accCap (s.acc.length + s.pbuf.length) = false) :
    dataFrame opc false s = .next (countFrame (recordOp opc (s.setAcc (s.acc ++ s.pbuf)))) := by
  rcases dataFrame_cases (opc := opc) (fin := false) (s := s) rfl with
    ⟨-, hf, -⟩ | ⟨-, hc', -⟩ | ⟨-, hf, -⟩ | ⟨-, -, e⟩
  · cases hf
  · simp [hc] at hc'
  · cases hf
  · exact e

end MrdOperations

/-! ### The dispatch, by the class of the opcode (R97) -/

section Dispatch

variable {s : State}

theorem advance_dataFrame (hs : s.seq = .mrDispatch) (hr : s.rsv = 0) (ho : s.opc.toNat ≤ 2) :
    advance s = dataFrame s.opc s.fin s := by
  rw [advance_dispatch hs hr]
  rcases exec_instrOfOpcode s.opc s.fin s.masked s.len7 s with ⟨-, e⟩ | ⟨h, -⟩ | ⟨h, -⟩ | ⟨h, -⟩
  · exact e
  · rcases h with h | h <;> simp [h] at ho
  · simp [h] at ho
  · exact absurd (by simp; omega) h

theorem advance_pingPong (hs : s.seq = .mrDispatch) (hr : s.rsv = 0) (ho : s.opc = 9 ∨ s.opc = 10) :
    advance s = .next (countFrame s) := by
  rw [advance_dispatch hs hr]
  rcases ho with ho | ho <;> rw [ho] <;> rfl

theorem advance_closeFrame (hs : s.seq = .mrDispatch) (hr : s.rsv = 0) (ho : s.opc = 8) :
    advance s = .next (raise .close s.setClosed) := by
  rw [advance_dispatch hs hr, ho]
  rfl

theorem advance_reservedFrame (hs : s.seq = .mrDispatch) (hr : s.rsv = 0) (ho : s.opc.toNat ∉ [0, 1, 2, 8, 9, 10]) :
    advance s = .next (raise (.protocolOpcode s.fin s.opc) s) := by
  rw [advance_dispatch hs hr]
  rcases exec_instrOfOpcode s.opc s.fin s.masked s.len7 s with ⟨h, -⟩ | ⟨h, -⟩ | ⟨h, -⟩ | ⟨-, e⟩
  · exact absurd (by simp; omega) ho
  · rcases h with h | h <;> simp [h] at ho
  · simp [h] at ho
  · exact e

/-- The four classes of R97. -/
theorem opcode_classes (opc : BitVec 4) :
    opc.toNat ≤ 2 ∨ (opc = 9 ∨ opc = 10) ∨ opc = 8 ∨ opc.toNat ∉ [0, 1, 2, 8, 9, 10] := by
  revert opc; decide

end Dispatch

end Sys2Proof.Machine

namespace Sys2Proof.Machine

/-! ### MRD's instructions as the rules state them (R97 to R113) -/

/-- Settles O37: the block's own step at the dispatch, by the four classes of the opcode. -/
theorem dispatchClassifiesTheOpcode : Obligations.DispatchClassifiesTheOpcode := by
  intro s ms hl ht hs hr
  rw [step_quiet hl ht]
  exact ⟨advance_dataFrame (s := s.setHost ms) hs hr, advance_pingPong (s := s.setHost ms) hs hr,
    advance_closeFrame (s := s.setHost ms) hs hr, advance_reservedFrame (s := s.setHost ms) hs hr⟩

/-- A frame counted by `countFrame` ends the call only with `LIMIT`, which is no message. -/
theorem countFrame_res_of_done {s : State} (h : (countFrame s).seq = .done) : (countFrame s).res = .err .limit := by
  rcases countFrame_cases s with ⟨-, e⟩ | ⟨-, e⟩ <;> rw [e] at h ⊢
  · cases h
  · rfl

/-- A data frame ends the call with a message without payload only by the fast path: the accumulation path returns a
message at least as long as the accumulator, which is not empty there (R113). -/
theorem dataFrame_emptyMessage {opc op : BitVec 4} {fin : Bool} {s t : State} (h : dataFrame opc fin s = .next t)
    (hs : t.seq = .done) (hr : t.res = .message op []) : s.acc = [] ∧ fin = true ∧ op = opc := by
  rcases dataFrame_cases h with ⟨ha, hf, e⟩ | ⟨-, -, e⟩ | ⟨ha, -, -, e⟩ | ⟨-, -, e⟩ <;> cases e
  · exact ⟨ha, hf, (Result.message.inj hr).1.symm⟩
  · have happ : s.acc ++ s.pbuf = [] := (Result.message.inj hr).2
    exact absurd (List.append_eq_nil_iff.mp happ).1 ha
  · rw [countFrame_res_of_done hs] at hr
    cases hr

/-- Settles O39, by the classes of the opcode: no other class ends the call with a message. -/
theorem emptyMessageComesFromTheFastPath : Obligations.EmptyMessageComesFromTheFastPath := by
  intro s t op hl hh hs hr hstep hdone hres
  rw [State.Unattended.step_eq ⟨hl, hh⟩] at hstep
  rcases opcode_classes s.opc with ho | ho | ho | ho
  · exact dataFrame_emptyMessage ((advance_dataFrame hs hr ho).symm.trans hstep) hdone hres
  · cases (advance_pingPong hs hr ho).symm.trans hstep
    rw [countFrame_res_of_done hdone] at hres
    cases hres
  · cases (advance_closeFrame hs hr ho).symm.trans hstep
    cases hres
  · cases (advance_reservedFrame hs hr ho).symm.trans hstep
    cases hres

/-- Settles O30: each data opcode takes the fast path. -/
theorem fastPathReturnsTheFrame : Obligations.FastPathReturnsTheFrame := by
  intro masked len7 s ha
  exact ⟨dataFrame_fastPath ha, dataFrame_fastPath ha, dataFrame_fastPath ha⟩

/-- Settles O31: the last fragment is appended, and its opcode recorded or not, as the policy says. -/
theorem finalFragmentReturnsTheMessage : Obligations.FinalFragmentReturnsTheMessage := by
  intro masked len7 s ha hc
  refine ⟨dataFrame_lastFragment_notRecorded ha hc (by simp), fun hp => ⟨?_, ?_⟩, fun hp hm => ⟨?_, ?_⟩⟩
  · exact dataFrame_lastFragment_recorded ha hc ⟨by decide, hp⟩
  · exact dataFrame_lastFragment_recorded ha hc ⟨by decide, hp⟩
  · exact dataFrame_lastFragment_notRecorded ha hc (by simpa [hp] using hm)
  · exact dataFrame_lastFragment_notRecorded ha hc (by simpa [hp] using hm)

/-- Settles O32: each data opcode appends and records (`recordOp_eq`), and then counts the frame. -/
theorem fragmentIsAppendedAndCounted : Obligations.FragmentIsAppendedAndCounted := by
  intro masked len7 s i opc hi hc records t
  have hexec : exec i s = dataFrame opc false s := by
    rcases hi with ⟨rfl, rfl⟩ | ⟨rfl, rfl⟩ | ⟨rfl, rfl⟩ <;> rfl
  have hfcnt : (recordOp opc (s.setAcc (s.acc ++ s.pbuf))).fcnt = s.fcnt := recordOp_fcnt ..
  rw [hexec, dataFrame_fragment hc]
  constructor <;> intro hf <;> rw [← hfcnt] at hf
  · rw [countFrame_of_lt hf, recordOp_eq]
    rfl
  · rw [countFrame_of_eq hf, recordOp_eq]
    rfl

/-- Settles O33: the capacity is exceeded, and the fast path is not taken. -/
theorem appendBeyondCapacityFaults : Obligations.AppendBeyondCapacityFaults := by
  intro fin masked len7 s cap hcap hlt hslow
  have hc : exceeds s.params.accCap (s.acc.length + s.pbuf.length) = true := by
    rw [hcap]
    exact decide_eq_true hlt
  exact ⟨dataFrame_overCapacity hslow hc, dataFrame_overCapacity hslow hc, dataFrame_overCapacity hslow hc⟩

/-- Settles O34: ping and pong count the frame. -/
theorem pingAndPongOnlyCount : Obligations.PingAndPongOnlyCount := by
  intro fin masked len7 s i hi
  have hexec : exec i s = .next (countFrame s) := by rcases hi with rfl | rfl <;> rfl
  rw [hexec]
  constructor <;> intro hf
  · rw [countFrame_of_lt hf]
    rfl
  · rw [countFrame_of_eq hf]
    rfl

/-- Settles O35: `CLOSED` is set, and the close signal raised (`raise_eq`). -/
theorem closeRaisesTheCloseSignal : Obligations.CloseRaisesTheCloseSignal := by
  intro fin masked len7 s
  exact congrArg Host.Outcome.next (raise_eq .close s.setClosed)

/-- Settles O36: each reserved opcode raises the opcode error with its own opcode (`raise_eq`). -/
theorem reservedOpcodesRaiseTheOpcodeError : Obligations.ReservedOpcodesRaiseTheOpcodeError := by
  intro fin masked len7 s ends
  have hraise (opc : BitVec 4) : reservedFrame opc fin s = ends opc := congrArg Host.Outcome.next (raise_eq _ s)
  exact ⟨hraise 3, hraise 4, hraise 5, hraise 6, hraise 7, hraise 11, hraise 12, hraise 13, hraise 14, hraise 15⟩

/-- Settles O38: an empty fragment appended to an empty accumulator leaves it empty, so the fast path is open to the frame
after it. -/
theorem emptyFirstFragmentStartsNothing : Obligations.EmptyFirstFragmentStartsNothing := by
  intro masked masked' len7 len7' s payload ha hp hm hf startsNothing
  have hcap : exceeds s.params.accCap (s.acc.length + s.pbuf.length) = false := by
    rw [ha, hp]
    cases s.params.accCap <;> rfl
  have starts {i : Instr} {opc : BitVec 4} (hexec : exec i s = dataFrame opc false s) : startsNothing i opc := by
    have hacc : (countFrame (recordOp opc (s.setAcc (s.acc ++ s.pbuf)))).acc = [] := by simp [ha, hp]
    have hop : (countFrame (recordOp opc (s.setAcc (s.acc ++ s.pbuf)))).msgOp = opc := by
      rw [countFrame_msgOp, recordOp_msgOp, State.setAcc_msgOp, hm, recordedOp_zero]
    have hcount := countFrame_of_lt (s := recordOp opc (s.setAcc (s.acc ++ s.pbuf))) (by rwa [recordOp_fcnt])
    exact ⟨_, _, hexec.trans (dataFrame_fragment hcap), hacc, hop, congrArg State.seq hcount, dataFrame_fastPath hacc,
      rfl, rfl⟩
  exact ⟨starts rfl, starts rfl, starts rfl⟩

end Sys2Proof.Machine

namespace Sys2Proof.Machine

/-! ### READ_MESSAGE computes its listing (R114) -/

section Verdicts

variable {p : Params} {acc : List Byte} {msgOp : BitVec 4} {f : DecodedFrame}

theorem frameVerdict_data (ho : f.opcode.toNat ≤ 2) :
    frameVerdict p acc msgOp f =
      if acc = [] ∧ f.fin = true then .returns (.message f.opcode f.payload) false
      else if exceeds p.accCap (acc.length + f.payload.length) then .fault .capacity
      else if f.fin = true then
        .returns (.message (recordedOp p.recordPolicy msgOp f.opcode) (acc ++ f.payload)) false
      else .goesOn (acc ++ f.payload) (recordedOp p.recordPolicy msgOp f.opcode) := by
  have hall : f.opcode.toNat = 0 ∨ f.opcode.toNat = 1 ∨ f.opcode.toNat = 2 := by omega
  rcases hall with h | h | h <;> simp only [frameVerdict, h]

theorem frameVerdict_fastPath (ho : f.opcode.toNat ≤ 2) (ha : acc = []) (hf : f.fin = true) :
    frameVerdict p acc msgOp f = .returns (.message f.opcode f.payload) false := by
  rw [frameVerdict_data ho, if_pos ⟨ha, hf⟩]

theorem frameVerdict_overCapacity (ho : f.opcode.toNat ≤ 2) (ha : acc ≠ [] ∨ f.fin = false)
    (hc : exceeds p.accCap (acc.length + f.payload.length) = true) :
    frameVerdict p acc msgOp f = .fault .capacity := by
  have hslow : ¬ (acc = [] ∧ f.fin = true) := by rcases ha with ha | hf <;> simp [*]
  rw [frameVerdict_data ho, if_neg hslow, if_pos hc]

theorem frameVerdict_lastFragment (ho : f.opcode.toNat ≤ 2) (ha : acc ≠ []) (hf : f.fin = true)
    (hc : exceeds p.accCap (acc.length + f.payload.length) = false) :
    frameVerdict p acc msgOp f =
      .returns (.message (recordedOp p.recordPolicy msgOp f.opcode) (acc ++ f.payload)) false := by
  rw [frameVerdict_data ho, if_neg (by simp [ha]), hc, if_neg Bool.false_ne_true, if_pos hf]

theorem frameVerdict_fragment (ho : f.opcode.toNat ≤ 2) (hf : f.fin = false)
    (hc : exceeds p.accCap (acc.length + f.payload.length) = false) :
    frameVerdict p acc msgOp f = .goesOn (acc ++ f.payload) (recordedOp p.recordPolicy msgOp f.opcode) := by
  rw [frameVerdict_data ho, if_neg (by simp [hf]), hc, if_neg Bool.false_ne_true, if_neg (by simp [hf])]

theorem frameVerdict_pingPong (ho : f.opcode = 9 ∨ f.opcode = 10) : frameVerdict p acc msgOp f = .goesOn acc msgOp := by
  rcases ho with h | h <;> simp only [frameVerdict, h] <;> rfl

theorem frameVerdict_close (ho : f.opcode = 8) : frameVerdict p acc msgOp f = .returns (.err .close) true := by
  simp only [frameVerdict, ho]
  rfl

theorem frameVerdict_reserved (ho : f.opcode.toNat ∉ [0, 1, 2, 8, 9, 10]) :
    frameVerdict p acc msgOp f = .returns (.err (.protocolOpcode f.fin f.opcode)) false := by
  unfold frameVerdict
  split <;> simp_all

end Verdicts

/-- What the dispatch leaves alone but for the count of a frame. -/
structure DispatchKeeps (s t : State) : Prop where
  cmd : t.cmd = s.cmd
  fcnt : t.fcnt = s.fcnt
  key : t.key = s.key
  live : t.live = s.live
  host : t.host = s.host
  delivered : t.delivered = s.delivered
  stream : t.stream = s.stream
  params : t.params = s.params

/-- The block's own step from `s` does what a verdict of R114's loop body says: it ends the call, faults, or counts the
frame, `ACC` and `MSG_OP` standing as the verdict says. -/
def Dispatches (s : State) : Verdict → Prop
  | .returns r closes =>
    ∃ t, advance s = .next t ∧ DispatchKeeps s t ∧ t.seq = .done ∧ t.res = r ∧ t.closed = (s.closed || closes)
  | .fault r => advance s = .fault r
  | .goesOn acc msgOp =>
    ∃ t, advance s = .next (countFrame t) ∧ DispatchKeeps s t ∧ t.closed = s.closed ∧ t.acc = acc ∧ t.msgOp = msgOp

/-- Recording leaves alone what the dispatch does. -/
theorem dispatchKeeps_recordOp (s : State) (opc : BitVec 4) (a : List Byte) :
    DispatchKeeps s (recordOp opc (s.setAcc a)) := by
  constructor <;> simp

theorem dispatches_dataFrame {s : State} (hs : s.seq = .mrDispatch) (hr : s.rsv = 0) (ho : s.opc.toNat ≤ 2) :
    Dispatches s (frameVerdict s.params s.acc s.msgOp s.decodedFrame) := by
  have hop : (recordOp s.opc (s.setAcc (s.acc ++ s.pbuf))).msgOp = recordedOp s.params.recordPolicy s.msgOp s.opc :=
    recordOp_msgOp s.opc _
  have hkeep := dispatchKeeps_recordOp s s.opc (s.acc ++ s.pbuf)
  rcases dataFrame_cases (advance_dataFrame hs hr ho).symm with
    ⟨ha, hf, hadv⟩ | ⟨ha, hc, hadv⟩ | ⟨ha, hf, hc, hadv⟩ | ⟨hf, hc, hadv⟩
  · rw [frameVerdict_fastPath (f := s.decodedFrame) ho ha hf]
    exact ⟨_, hadv, ⟨rfl, rfl, rfl, rfl, rfl, rfl, rfl, rfl⟩, rfl, rfl, (Bool.or_false _).symm⟩
  · rw [frameVerdict_overCapacity (f := s.decodedFrame) ho ha hc]
    exact hadv
  · rw [frameVerdict_lastFragment (f := s.decodedFrame) ho ha hf hc]
    exact ⟨_, hadv, { hkeep with }, rfl, congrArg (Result.message · _) hop, by simp⟩
  · rw [frameVerdict_fragment (f := s.decodedFrame) ho hf hc]
    exact ⟨_, hadv, hkeep, by simp, by simp [State.decodedFrame], hop⟩

/-- The dispatch is the `case OPC of` of R114. -/
theorem dispatches_frameVerdict {s : State} (hs : s.seq = .mrDispatch) (hr : s.rsv = 0) :
    Dispatches s (frameVerdict s.params s.acc s.msgOp s.decodedFrame) := by
  rcases opcode_classes s.opc with ho | ho | ho | ho
  · exact dispatches_dataFrame hs hr ho
  · rw [frameVerdict_pingPong ho]
    exact ⟨s, advance_pingPong hs hr ho, ⟨rfl, rfl, rfl, rfl, rfl, rfl, rfl, rfl⟩, rfl, rfl, rfl⟩
  · rw [frameVerdict_close ho]
    exact ⟨_, advance_closeFrame hs hr ho, ⟨rfl, rfl, rfl, rfl, rfl, rfl, rfl, rfl⟩, rfl, rfl, by simp⟩
  · rw [frameVerdict_reserved ho]
    exact ⟨_, advance_reservedFrame hs hr ho, ⟨rfl, rfl, rfl, rfl, rfl, rfl, rfl, rfl⟩, rfl, rfl, by simp⟩

/-- A READ_MESSAGE call goes on, the host issuing nothing. -/
structure State.InCall (s : State) : Prop where
  unattended : s.Unattended
  cmd : s.cmd = .readMessage
  closed : s.closed = false

theorem State.InCall.of_keepsCall {s t : State} (h : s.InCall) (hk : KeepsCall s t) : t.InCall :=
  ⟨hk.unattended h.unattended, hk.cmd.trans h.cmd, hk.closed.trans h.closed⟩

theorem DispatchKeeps.unattended {s t : State} (h : DispatchKeeps s t) (hu : s.Unattended) : t.Unattended :=
  ⟨h.live.trans hu.1, h.host.trans hu.2⟩

/-- How a call ends after a verdict of the loop body, `again` being what follows a non-returning frame. -/
def verdictEnd (key : MaskKey) (items : List StreamItem)
    (again : MaskKey → List Byte → BitVec 4 → List StreamItem → CallEnd) : Verdict → CallEnd
  | .returns r closes => .result r closes key items
  | .fault r => .fault r
  | .goesOn acc msgOp => again key acc msgOp items

theorem loopTurn_frame {p : Params} {key key' : MaskKey} {items rest : List StreamItem} {f : DecodedFrame}
    (h : decodeFrameListing p.accCap key items = .frame f key' rest) (acc : List Byte) (msgOp : BitVec 4)
    (again : MaskKey → List Byte → BitVec 4 → List StreamItem → CallEnd) :
    loopTurn p key acc msgOp items again = verdictEnd key' rest again (frameVerdict p acc msgOp f) := by
  rw [loopTurn, h]
  rfl

section LoopTurn

variable {s : State} {again : MaskKey → List Byte → BitVec 4 → List StreamItem → CallEnd}

/-- From the dispatch on: the verdict's result is delivered, or the frame is counted and the loop goes on as `again` says. -/
theorem Dispatches.computes {v : Verdict} (hcall : s.InCall) (h : Dispatches s v)
    (hagain : ∀ t : State, t.InCall → t.params = s.params → t.fcnt = s.fcnt →
      Computes (countFrame t) (again t.key t.acc t.msgOp t.stream)) :
    Computes s (verdictEnd s.key s.stream again v) := by
  have hstep := hcall.unattended.step_eq
  cases v with
  | returns r closes =>
    obtain ⟨t, hadv, hk, hs, rfl, hclosed⟩ := h
    have hcl : t.closed = closes := by rw [hclosed, hcall.closed, Bool.false_or]
    rw [verdictEnd, ← hk.key, ← hk.stream, ← hcl]
    exact .of_reaches (.step (hstep.trans hadv)) hk.delivered (computes_of_done (hk.unattended hcall.unattended) hs)
  | fault r => exact Faults.of_step (hstep.trans h)
  | goesOn acc msgOp =>
    obtain ⟨t, hadv, hk, hclosed, rfl, rfl⟩ := h
    have ht : t.InCall := ⟨hk.unattended hcall.unattended, hk.cmd.trans hcall.cmd, hclosed.trans hcall.closed⟩
    rw [verdictEnd, ← hk.key, ← hk.stream]
    exact .of_reaches (.step (hstep.trans hadv)) ((countFrame_delivered t).trans hk.delivered)
      (hagain t ht hk.params hk.fcnt)

/-- One turn of R114's loop: FDEC's steps (R94), the move to the dispatch (R91), and the dispatch. -/
theorem computes_loopTurn (hcall : s.InCall) (hs : s.seq = .fdH0) (ha : s.answered = false)
    (hagain : ∀ t : State, t.InCall → t.params = s.params → t.fcnt = s.fcnt →
      Computes (countFrame t) (again t.key t.acc t.msgOp t.stream)) :
    Computes s (loopTurn s.params s.key s.acc s.msgOp s.stream again) := by
  have h := frameComputes_listing hcall.unattended hs ha
  cases he : decodeFrameListing s.params.accCap s.key s.stream <;> rw [he] at h
  case frame f key rest =>
    obtain ⟨t, hr, hk, ht, hrsv, rfl, rfl, rfl⟩ := h
    have hct := hcall.of_keepsCall hk
    have hdisp := hct.unattended.step_eq.trans (advance_toDispatch ht hct.cmd)
    rw [loopTurn_frame he, ← hk.params, ← hk.acc, ← hk.msgOp]
    refine .of_reaches (hr.trans (.step hdisp)) hk.delivered ?_
    refine Dispatches.computes (s := t.goto .mrDispatch) ⟨hct.unattended, hct.cmd, hct.closed⟩
      (dispatches_frameVerdict rfl hrsv) fun u hu hp hf => ?_
    exact hagain u hu (hp.trans hk.params) (hf.trans hk.fcnt)
  all_goals simp only [loopTurn, he]
  case raised k key rest => exact hcall.closed ▸ h.computes_raised hcall.unattended
  case fault r => exact h
  case refused r => exact h
  case waiting => exact h.computes_waiting

end LoopTurn

/-- R114's loop with `left` non-returning frames still tolerated, by induction on `left`: the frame counted at 100 ends the
call with `LIMIT`, any earlier one leads to the next turn. -/
theorem computes_readLoop (left : Nat) {s : State} (hcall : s.InCall) (hs : s.seq = .fdH0) (ha : s.answered = false)
    (hleft : s.fcnt.toNat + left = 100) : Computes s (readLoop s.params left s.key s.acc s.msgOp s.stream) := by
  induction left generalizing s with
  | zero =>
    refine computes_loopTurn hcall hs ha fun t ht _ hf => ?_
    rw [countFrame_of_eq (by rw [hf]; exact hleft), ← ht.closed]
    exact computes_of_done (s := raise .limit (t.setFcnt (t.fcnt + 1))) ht.unattended rfl
  | succ left ih =>
    refine computes_loopTurn hcall hs ha fun t ht hp hf => ?_
    have hlt : t.fcnt.toNat < 100 := by rw [hf]; omega
    have hn : (t.fcnt + 1).toNat + left = 100 := by rw [fcnt_succ_toNat hlt.le, hf]; omega
    rw [countFrame_of_lt hlt, ← hp]
    exact ih (s := (t.setFcnt (t.fcnt + 1)).goto .fdH0) ⟨ht.unattended, ht.cmd, ht.closed⟩ rfl rfl hn

/-- Settles O8: the accepted READ_MESSAGE resets the call registers. -/
theorem readMessageIsAcceptedWithCallReset : Obligations.ReadMessageIsAcceptedWithCallReset := by
  intro s hs hc
  exact acceptThen_of_ready hs hc fun s =>
    ((((s.setCmd .readMessage).setAcc []).setMsgOp 0).setFcnt 0).goto .fdH0

/-- Settles O55: READ_MESSAGE is accepted with the call registers reset, and the loop of R114 is computed turn by turn
(`computes_readLoop`). -/
theorem readMessageComputesItsListing : Obligations.ReadMessageComputesItsListing := by
  intro s items hready
  obtain ⟨hl, hs, hc⟩ := hready
  have hstep := (step_calling hl .readMessage items).trans
    (readMessageIsAcceptedWithCallReset ((s.calling .readMessage items).setHost []) hs hc)
  exact .of_reaches (.step hstep) rfl (computes_readLoop 100 ⟨⟨hl, rfl⟩, rfl, hc⟩ rfl rfl rfl)

end Sys2Proof.Machine

namespace Sys2Proof.Machine

/-! ### The listing of MRD on streams of sent frames (R114) -/

section ReadLoop

variable {p : Params} {key key' : MaskKey} {acc acc' : List Byte} {msgOp msgOp' : BitVec 4} {items rest : List StreamItem}
  {f : DecodedFrame}

/-- A returning frame ends the loop, however many frames it still tolerates. -/
theorem readLoop_of_returns {r : Result} {closes : Bool} (hd : decodeFrameListing p.accCap key items = .frame f key' rest)
    (hv : frameVerdict p acc msgOp f = .returns r closes) (left : Nat) :
    readLoop p left key acc msgOp items = .result r closes key' rest := by
  cases left <;> rw [readLoop, loopTurn_frame hd, hv] <;> rfl

/-- A non-returning frame leads to the next turn while another is tolerated. -/
theorem readLoop_succ_of_goesOn (hd : decodeFrameListing p.accCap key items = .frame f key' rest)
    (hv : frameVerdict p acc msgOp f = .goesOn acc' msgOp') (left : Nat) :
    readLoop p (left + 1) key acc msgOp items = readLoop p left key' acc' msgOp' rest := by
  rw [readLoop, loopTurn_frame hd, hv]
  rfl

/-- A non-returning frame beyond those tolerated is `LIMIT` (R101, R121). -/
theorem readLoop_zero_of_goesOn (hd : decodeFrameListing p.accCap key items = .frame f key' rest)
    (hv : frameVerdict p acc msgOp f = .goesOn acc' msgOp') :
    readLoop p 0 key acc msgOp items = .result (.err .limit) false key' rest := by
  rw [readLoop, loopTurn_frame hd, hv]
  rfl

end ReadLoop

/-- A final data frame sent first is the message, whatever the loop still tolerates (R98). -/
theorem readLoop_sentMessage {f : WireFrame} (h : f.wf = true) (hfin : f.fin = true) (ho : f.opc.toNat ≤ 2) {p : Params}
    (hc : exceeds p.accCap f.payload.length = false) (left : Nat) (key : MaskKey) (msgOp : BitVec 4)
    (rest : List StreamItem) :
    readLoop p left key [] msgOp (streamOf f.bytes ++ rest) =
      .result (.message f.opc f.payload) false (f.key.getD key) rest :=
  readLoop_of_returns (sentFrameDecodesToItself f p.accCap key rest h hc) (frameVerdict_fastPath ho rfl hfin) left

/-- Settles O58: the call computes its listing (O55), and the listing returns the frame sent first. -/
theorem singleFrameMessageIsReturnedUnmodified : Obligations.SingleFrameMessageIsReturnedUnmodified := by
  intro s f rest hready h hfin hopc hc
  have ho : f.opc.toNat ≤ 2 := by rcases hopc with e | e <;> rw [e] <;> decide
  have hcall := readMessageComputesItsListing s (streamOf f.bytes ++ rest) hready
  rwa [readCallListing, readLoop_sentMessage h hfin ho hc] at hcall

/-- An unmasked frame in the shortest form, with its reserved bits clear (R68). -/
def plainFrame (fin : Bool) (opc : BitVec 4) (payload : List Byte) : WireFrame :=
  { fin := fin, rsv := 0, opc := opc, key := none, form := .len7, payload := payload }

/-- An empty frame in the seven-bit form is decoded under any capacity. -/
theorem decodeFrameListing_emptyFrame (fin : Bool) (opc : BitVec 4) (cap : Option Nat) (key : MaskKey)
    (rest : List StreamItem) :
    decodeFrameListing cap key (streamOf (plainFrame fin opc []).bytes ++ rest) =
      .frame { fin := fin, opcode := opc, masked := false, payload := [] } key rest :=
  sentFrameDecodesToItself (plainFrame fin opc []) cap key rest rfl (by cases cap <;> rfl)

/-- An empty ping, an empty pong or an empty continuation that is not final: the frames of O40, as bytes. -/
def IsEmptyFiller (bytes : List Byte) : Prop := bytes = [0x89, 0x00] ∨ bytes = [0x8A, 0x00] ∨ bytes = [0x00, 0x00]

/-- Such a frame is decoded and does not return: a call that has accumulated nothing still has nothing after it. -/
theorem IsEmptyFiller.goesOn {bytes : List Byte} (h : IsEmptyFiller bytes) (p : Params) (key : MaskKey)
    (rest : List StreamItem) :
    ∃ f, decodeFrameListing p.accCap key (streamOf bytes ++ rest) = .frame f key rest ∧
      frameVerdict p [] 0 f = .goesOn [] 0 := by
  have hc : exceeds p.accCap 0 = false := by cases p.accCap <;> rfl
  rcases h with rfl | rfl | rfl
  · exact ⟨_, decodeFrameListing_emptyFrame true 9 _ key rest, frameVerdict_pingPong (.inl rfl)⟩
  · exact ⟨_, decodeFrameListing_emptyFrame true 10 _ key rest, frameVerdict_pingPong (.inr rfl)⟩
  · exact ⟨_, decodeFrameListing_emptyFrame false 0 _ key rest, frameVerdict_fragment (by decide) rfl hc⟩

/-- The loop passes over such frames, as many as it tolerates, and has as many fewer left. -/
theorem readLoop_emptyFillers {frames : List (List Byte)} (hf : ∀ f ∈ frames, IsEmptyFiller f) (p : Params) (left : Nat)
    (key : MaskKey) (items : List StreamItem) :
    readLoop p (left + frames.length) key [] 0 (streamOf frames.flatten ++ items) = readLoop p left key [] 0 items := by
  induction frames with
  | nil => rfl
  | cons f fs ih =>
    obtain ⟨hf, hfs⟩ := List.forall_mem_cons.mp hf
    have hparts : streamOf (f :: fs).flatten ++ items = streamOf f ++ (streamOf fs.flatten ++ items) := by
      simp [streamOf]
    obtain ⟨d, hd, hv⟩ := hf.goesOn p key (streamOf fs.flatten ++ items)
    rw [hparts, List.length_cons, ← Nat.add_assoc, readLoop_succ_of_goesOn hd hv, ih hfs]

/-- After up to 100 such frames a final TEXT frame of one byte is the message. -/
theorem readCallListing_of_length_le {frames : List (List Byte)} (hf : ∀ f ∈ frames, IsEmptyFiller f)
    (hle : frames.length ≤ 100) {p : Params} (hcap : p.accCap = none) (b : Byte) (key : MaskKey)
    (rest : List StreamItem) :
    readCallListing p key (streamOf (frames.flatten ++ [0x81, 0x01, b]) ++ rest) =
      .result (.message 1 [b]) false key rest := by
  have hbytes : (plainFrame true 1 [b]).bytes = [0x81, 0x01, b] := by
    show [byte0 true 0 1, byte1 false 1, b] = _
    rfl
  have hparts : streamOf (frames.flatten ++ [0x81, 0x01, b]) ++ rest =
      streamOf frames.flatten ++ (streamOf (plainFrame true 1 [b]).bytes ++ rest) := by
    rw [hbytes]
    simp [streamOf]
  have hc : exceeds p.accCap [b].length = false := by rw [hcap]; rfl
  rw [readCallListing, hparts, ← Nat.sub_add_cancel hle, readLoop_emptyFillers hf]
  exact readLoop_sentMessage (f := plainFrame true 1 [b]) rfl rfl (show 1 ≤ 2 by decide) hc _ _ _ _

/-- The frame after 100 such frames, if it is another of them, is `LIMIT`. -/
theorem readCallListing_of_length_eq {frames : List (List Byte)} (hf : ∀ f ∈ frames, IsEmptyFiller f)
    (hlen : frames.length = 101) (p : Params) (key : MaskKey) (rest : List StreamItem) :
    readCallListing p key (streamOf frames.flatten ++ rest) = .result (.err .limit) false key rest := by
  rcases List.eq_nil_or_concat' frames with rfl | ⟨init, last, rfl⟩
  · cases hlen
  have hinit : init.length = 100 := by simpa using hlen
  obtain ⟨hfs, hlast⟩ := List.forall_mem_append.mp hf
  have hparts : streamOf (init ++ [last]).flatten ++ rest = streamOf init.flatten ++ (streamOf last ++ rest) := by
    simp [streamOf]
  have hpass := readLoop_emptyFillers hfs p 0 key (streamOf last ++ rest)
  rw [Nat.zero_add, hinit] at hpass
  obtain ⟨d, hd, hv⟩ := (hlast last (List.mem_singleton_self _)).goesOn p key rest
  rw [readCallListing, hparts, hpass, readLoop_zero_of_goesOn hd hv]

/-- Settles O40: the call computes its listing (O55), whose loop passes over 100 of these frames; the final frame after
them returns, and one more of them is `LIMIT`. -/
theorem callToleratesExactlyOneHundredFrames : Obligations.CallToleratesExactlyOneHundredFrames := by
  intro s frames b rest hready hcap hf
  constructor <;> intro hlen
  · have hcall := readMessageComputesItsListing s (streamOf (frames.flatten ++ [0x81, 0x01, b]) ++ rest) hready
    rwa [readCallListing_of_length_le hf hlen hcap] at hcall
  · have hcall := readMessageComputesItsListing s (streamOf frames.flatten ++ rest) hready
    rwa [readCallListing_of_length_eq hf hlen] at hcall

end Sys2Proof.Machine

namespace Sys2Proof.Machine

/-! ### A call ends unless the stream withholds (R102, R131)

Every step of a call but a wait takes it nearer to its end: eleven steps for a frame, at most 101 frames, and the
delivery, counted as log 2 fixes the steps. -/

/-- The steps a frame still takes at most, the one of the dispatch included. -/
def frameSteps (q : Seq) (answered : Bool) : Nat :=
  match q with
  | .fdH0 => if answered then 10 else 11
  | .fdH1 => if answered then 8 else 9
  | .fdX16 | .fdX64 => if answered then 6 else 7
  | .fdKey => 5
  | .fdPay => if answered then 3 else 4
  | .fdEnd => 2
  | .mrDispatch => 1
  | .idle | .done => 0

/-- The steps a call still takes at most: those of the frame being read, those of the frames still tolerated after it,
and the delivery. -/
def State.stepsLeft (s : State) : Nat :=
  match s.seq with
  | .idle => 0
  | .done => 1
  | _ => 11 * (100 - s.fcnt.toNat) + frameSteps s.seq s.answered + 1

theorem frameSteps_le (q : Seq) (answered : Bool) : frameSteps q answered ≤ 11 := by
  cases q <;> cases answered <;> decide

theorem stepsLeft_le (s : State) : s.stepsLeft ≤ 1112 := by
  have := frameSteps_le s.seq s.answered
  unfold State.stepsLeft
  split <;> omega

theorem stepsLeft_pos {s : State} (h : s.seq ≠ .idle) : 0 < s.stepsLeft := by
  unfold State.stepsLeft
  split
  · exact absurd (by assumption) h
  · exact Nat.zero_lt_one
  · exact Nat.succ_pos _

theorem stepsLeft_of_done {s : State} (h : s.seq = .done) : s.stepsLeft = 1 := by rw [State.stepsLeft, h]

theorem stepsLeft_of_dispatch {s : State} (h : s.seq = .mrDispatch) : s.stepsLeft = 11 * (100 - s.fcnt.toNat) + 2 := by
  rw [State.stepsLeft, h]
  rfl

/-- Before `DONE` a call has its delivery left, and a step of its frame before that. -/
theorem one_lt_stepsLeft {s : State} (h : s.seq.reading = true ∨ s.seq = .mrDispatch) : 1 < s.stepsLeft := by
  unfold State.stepsLeft frameSteps
  cases hs : s.seq <;> cases s.answered <;> simp_all [Seq.reading]

/-- A counted frame uses up one of those tolerated: eleven steps less, and eleven for the frame to come. -/
theorem countFrame_stepsLeft {s : State} (h : s.fcnt.toNat ≤ 100) :
    (countFrame s).stepsLeft < 11 * (100 - s.fcnt.toNat) + 2 := by
  have hn := fcnt_succ_toNat h
  rcases countFrame_cases s with ⟨hle, e⟩ | ⟨-, e⟩ <;> rw [e]
  · show 11 * (100 - (s.fcnt + 1).toNat) + 11 + 1 < _
    omega
  · rw [stepsLeft_of_done (raise_seq _ _)]
    omega

/-- Every way the block goes on takes the call nearer to its end, but for the wait for a read. -/
theorem BlockStep.stepsLeft_lt {s t : State} (h : BlockStep s t) (hi : Inv s) (hidle : s.seq ≠ .idle)
    (hw : ¬ Waiting s) : t.stepsLeft < s.stepsLeft := by
  have ends (hs : s.seq.reading = true ∨ s.seq = .mrDispatch) (ht : t.seq = .done) : t.stepsLeft < s.stepsLeft := by
    rw [stepsLeft_of_done ht]
    exact one_lt_stepsLeft hs
  cases h with
  | rest hs => exact absurd hs hidle
  | wait n hp hr => exact absurd ⟨n, hp, hr⟩ hw
  | noCommand _ hc => exact absurd (hi.cmd_idle.mpr hc) hidle
  | error n e rest hp => exact ends (.inl (pendingRead_reading hp)) rfl
  | rsvSet hs | returnFrame hs => exact ends (.inl (congrArg Seq.reading hs)) rfl
  | dispatchRsv hs | fastPath hs | lastFragment hs | closeFrame hs | reserved hs => exact ends (.inr hs) rfl
  | gotH0 bs rest hs ha | gotH1 bs rest hs ha | gotX16 bs rest hs ha | gotX64 bs rest hs ha | gotPayload bs rest hs ha
  | noPayload hs ha | rsvClear hs ha | direct hs ha | ext16 hs ha | ext64 hs ha | unmasked hs ha | clear hs ha =>
    simp [State.stepsLeft, frameSteps, hs, ha]
  | extended hs ha => rcases hs with hs | hs <;> simp [State.stepsLeft, frameSteps, hs, ha]
  | gotKey bs rest hs | noKey hs | toDispatch hs => simp [State.stepsLeft, frameSteps, hs]
  | fragment hs =>
    have hf := hi.fcnt_call (.inl hs)
    have hcount := countFrame_stepsLeft (s := recordOp s.opc (s.setAcc (s.acc ++ s.pbuf))) (by simpa using hf)
    rw [stepsLeft_of_dispatch hs]
    simpa using hcount
  | pingPong hs =>
    rw [stepsLeft_of_dispatch hs]
    exact countFrame_stepsLeft (hi.fcnt_call (.inl hs))
  | delivered hs =>
    rw [stepsLeft_of_done hs]
    exact Nat.zero_lt_one

/-- How a call may have come to its end: back at `IDLE`, waiting for a read, or stopped as the block stops by itself. -/
def EndedOrWaiting : Outcome → Prop
  | .next t => t.seq = .idle ∨ Waiting t
  | .fault r => r = .capacity
  | .refused r => r = .lenMsbSet

/-- The block stops by itself only for the capacity or a refused length. -/
theorem BlockStop.endedOrWaiting {s : State} {o : Outcome} (h : BlockStop s o) : EndedOrWaiting o := by
  cases h <;> rfl

/-- The block's own step leaves the Connection as it is. -/
theorem BlockStep.live_eq {s t : State} (h : BlockStep s t) : t.live = s.live := by
  cases h <;> simp

/-- A call ends or waits within the steps it has left, by induction on their number: the block's own step leaves fewer
(`BlockStep.stepsLeft_lt`) or stops. -/
theorem exists_run_endedOrWaiting (n : Nat) {s : State} (hi : Inv s) (hu : s.Unattended) (hn : s.stepsLeft ≤ n) :
    ∃ k ≤ n, EndedOrWaiting (run k s) := by
  induction n generalizing s with
  | zero =>
    have hidle : s.seq = .idle := by
      by_contra hne
      exact absurd (stepsLeft_pos hne) (by omega)
    exact ⟨0, le_rfl, .inl hidle⟩
  | succ n ih =>
    by_cases hend : s.seq = .idle ∨ Waiting s
    · exact ⟨0, Nat.zero_le _, hend⟩
    obtain ⟨hidle, hw⟩ := not_or.mp hend
    cases hadv : advance s with
    | next t =>
      have hb := advance_next hadv
      have hlt := hb.stepsLeft_lt hi hidle hw
      obtain ⟨k, hk, hend⟩ := ih (hb.inv hi) ⟨hb.live_eq.trans hu.1, hb.host_eq.trans hu.2⟩ (by omega)
      exact ⟨k + 1, Nat.succ_le_succ hk, by rwa [run_next (hu.step_eq.trans hadv)]⟩
    | fault r =>
      refine ⟨1, by omega, ?_⟩
      rw [run_succ, hu.step_eq, hadv]
      exact (advance_fault hadv).endedOrWaiting
    | refused r =>
      refine ⟨1, by omega, ?_⟩
      rw [run_succ, hu.step_eq, hadv]
      exact (advance_refused hadv).endedOrWaiting

/-- Settles O59: a call has at most 1112 steps left, and ends or waits within them. -/
theorem callEndsUnlessTheStreamWithholds : Obligations.CallEndsUnlessTheStreamWithholds := by
  intro s hi hl hh
  obtain ⟨k, hk, hend⟩ := exists_run_endedOrWaiting 1112 hi ⟨hl, hh⟩ (stepsLeft_le s)
  refine ⟨k, hk, ?_⟩
  cases hr : run k s <;> rw [hr] at hend <;> exact hend

end Sys2Proof.Machine

namespace Sys2Proof.Machine

/-! ### The host's list after a step

Every step takes at most the move at the head of the host's list (log 10). -/

/-- The moves the host has left after its turn. -/
def Turn.left : Turn → List HostMove
  | .command _ rest | .destroy rest | .quiet rest => rest

theorem turn_left_suffix (s : State) : s.turn.left <:+ s.host := by
  rcases turn_cases s with ⟨c, ms, ht, hh | ⟨hh, -⟩⟩ | ⟨ms, ht, hh⟩ | ⟨ms, ht, ⟨hh, rfl⟩ | hh | ⟨c, r, -, rfl, -⟩⟩ <;>
    rw [ht]
  · exact hh ▸ List.suffix_cons ..
  · exact hh ▸ List.suffix_cons ..
  · exact hh ▸ List.suffix_cons ..
  · exact List.nil_suffix
  · exact hh ▸ List.suffix_cons ..
  · exact List.suffix_rfl

/-- A destroyed Connection only lets the host's turn pass (R138). -/
theorem step_of_destroyed {s : State} (hl : s.live = false) : step s = .next (s.setHost s.turn.left) := by
  rw [step, takeStep, hl]
  cases s.turn <;> rfl

theorem Accepted.host_eq {s t : State} {c : Command} (h : Accepted s c t) : t.host = s.host := by
  cases h <;> rfl

/-- A step takes the host's turn, and nothing else touches the host's list. -/
theorem step_host_eq {s t : State} (h : step s = .next t) : t.host = s.turn.left := by
  rcases step_next h with ⟨hl, -⟩ | ⟨-, c, ms, ht, ha⟩ | ⟨-, ms, ht, rfl⟩ | ⟨-, ms, ht, hb⟩
  · rw [step_of_destroyed hl] at h
    cases h
    rfl
  · rw [ht]
    exact ha.host_eq
  · rw [ht]
    rfl
  · rw [ht]
    exact hb.host_eq

theorem step_host_suffix {s t : State} (h : step s = .next t) : t.host <:+ s.host :=
  step_host_eq h ▸ turn_left_suffix s

/-! ### The faults of the host port (R128, R129) -/

/-- A command stands at the port when the host issues it at once, or has waited for `IDLE`. -/
theorem turn_eq_command_iff {s : State} {c : Command} {ms : List HostMove} :
    s.turn = .command c ms ↔ s.host = .issue c :: ms ∨ (s.host = .whenIdle c :: ms ∧ s.seq = .idle) := by
  constructor
  · intro h
    rcases turn_cases s with ⟨c', ms', ht, hh⟩ | ⟨ms', ht, -⟩ | ⟨ms', ht, -⟩ <;> cases h.symm.trans ht
    exact hh
  · rintro (hh | ⟨hh, hs⟩) <;> rw [State.turn, hh]
    exact if_pos hs

theorem Accepted.seq_idle {s t : State} {c : Command} (h : Accepted s c t) : s.seq = .idle := by
  cases h <;> assumption

/-- A command faults `CONCURRENT` exactly while another is in progress (R128). -/
theorem exec_command_concurrent_iff {c : Command} {s : State} :
    exec c.toInstr s = .fault .concurrent ↔ s.seq ≠ .idle := by
  rcases exec_command_cases c s with ⟨hs, e⟩ | ⟨hs, -, e⟩ | ⟨t, e, ha⟩ <;> rw [e]
  · exact iff_of_true rfl hs
  · exact iff_of_false nofun (not_not.mpr hs)
  · exact iff_of_false nofun (not_not.mpr ha.seq_idle)

/-- The block by itself stops for no reason of the host port (R87, R99). -/
theorem advance_ne_concurrent (s : State) : advance s ≠ .fault .concurrent := fun h => nomatch advance_fault h

/-- A step faults `CONCURRENT` exactly when a Connection's host issues a command without waiting for the one in
progress (R128, R130). -/
theorem step_concurrent_iff (s : State) :
    step s = .fault .concurrent ↔ s.live = true ∧ s.seq ≠ .idle ∧ ∃ c ms, s.host = .issue c :: ms := by
  constructor
  · intro h
    rcases step_cases s with ⟨-, ms, e⟩ | ⟨hl, c, ms, ht, e⟩ | ⟨-, ms, -, e⟩ | ⟨-, ms, -, e⟩ <;> rw [e] at h
    · cases h
    · have hs : s.seq ≠ .idle := (exec_command_concurrent_iff (c := c) (s := s.setHost ms)).mp h
      exact ⟨hl, hs, c, ms, (turn_eq_command_iff.mp ht).resolve_right fun hw => hs hw.2⟩
    · cases h
    · exact absurd h (advance_ne_concurrent _)
  · rintro ⟨hl, hs, c, ms, hh⟩
    rw [step_command hl (turn_eq_command_iff.mpr (.inl hh))]
    exact exec_command_concurrent_iff.mpr hs

/-- At `IDLE` and after the close signal the host port accepts no stream command (R129). -/
theorem acceptThen_of_closed {s : State} (hs : s.seq = .idle) (hc : s.closed = true) (k : State → State) :
    acceptThen s k = .fault .callAfterClose := by
  rw [acceptThen, if_neg (not_not.mpr hs), if_pos hc]

theorem execDecodeFrame_of_closed {s : State} (hs : s.seq = .idle) (hc : s.closed = true) :
    execDecodeFrame s = .fault .callAfterClose :=
  acceptThen_of_closed hs hc _

theorem execReadMessage_of_closed {s : State} (hs : s.seq = .idle) (hc : s.closed = true) :
    execReadMessage s = .fault .callAfterClose :=
  acceptThen_of_closed hs hc _

/-- Settles O5: the meaning by `exec_command_concurrent_iff`, the step by `step_concurrent_iff`. -/
theorem commandWhileBusyFaults : Obligations.CommandWhileBusyFaults := by
  intro c ms s hs
  exact ⟨exec_command_concurrent_iff.mpr hs, fun hl hh => (step_concurrent_iff s).mpr ⟨hl, hs, c, ms, hh⟩⟩

/-- Settles O6: the port closes to the two stream commands, and UNMASK does not look at `CLOSED`. -/
theorem callAfterCloseFaults : Obligations.CallAfterCloseFaults := by
  intro s hs hc
  exact ⟨execDecodeFrame_of_closed hs hc, execReadMessage_of_closed hs hc,
    fun key ofs data => ⟨_, execUnmask_of_idle hs key ofs data, hc⟩⟩

/-! ### The polite host (R130, R142) -/

theorem Polite.of_suffix {ms ms' : List HostMove} (h : Polite ms) (hs : ms' <:+ ms) : Polite ms' := fun c hc =>
  h c (hs.subset hc)

/-- Settles O9: `CONCURRENT` needs an `issue` at the head of the host's list, and a step leaves a suffix of that list. -/
theorem politeHostNeverOverlapsCommands : Obligations.PoliteHostNeverOverlapsCommands := by
  intro s hpolite
  refine ⟨fun hfault => ?_, fun t h => hpolite.of_suffix (step_host_suffix h)⟩
  obtain ⟨-, -, c, ms, hh⟩ := (step_concurrent_iff s).mp hfault
  exact hpolite c (hh ▸ List.mem_cons_self)

end Sys2Proof.Machine

namespace Sys2Proof.Machine

/-! ### The destroyed Connection (R138, log 7) -/

/-- Settles O52, by induction on the steps: each only lets the host's turn pass (`step_of_destroyed`), and the state it
leaves is a destroyed Connection again. -/
theorem destroyedConnectionAcceptsNothing : Obligations.DestroyedConnectionAcceptsNothing := by
  intro k
  induction k with
  | zero => exact fun s _ => ⟨s.host, run_zero s⟩
  | succ k ih =>
    intro s hl
    obtain ⟨ms, hrun⟩ := ih (s.setHost s.turn.left) hl
    exact ⟨ms, (run_next (step_of_destroyed hl) k).trans hrun⟩

end Sys2Proof.Machine
